-- ==== Sys2Proof/Word.lean ====
section
/-! DEFINITION. The words and tags the block is made of: 32-bit words, the six modes, the run-state, the eight
exception kinds, the mode selector of a command, and one transaction on the command port. -/

namespace Sys2Proof

/-- A register, a flag set, an address or a command word (R10, R12). -/
abbrev Word := BitVec 32

/-- The six modes of R20, in the order of the mode index of R85. -/
inductive Mode
  | system
  | fiq
  | supervisor
  | abort
  | irq
  | undefined
deriving DecidableEq, Repr, Inhabited

/-- The exception-capable modes of R14: the five modes that own a saved flag set (R38). -/
inductive ExcMode
  | fiq
  | supervisor
  | abort
  | irq
  | undefined
deriving DecidableEq, Repr, Inhabited

/-- The run-state tag of R41. -/
inductive RunState
  | arm
  | thumb
deriving DecidableEq, Repr, Inhabited

/-- The eight exception kinds of R240, in the order of the kind index of R87. -/
inductive Kind
  | reset
  | undefinedInstruction
  | softwareInterrupt
  | prefetchAbort
  | dataAbort
  | addressExceeds26bit
  | normalInterrupt
  | fastInterrupt
deriving DecidableEq, Repr, Inhabited

/-- The mode selector `msel` of R85: a mode named outright (0 to 5), the reserved value 6, or CURRENT (7). -/
inductive ModeSel
  | mode (m : Mode)
  | reserved
  | current
deriving DecidableEq, Repr

/-- What the driver presents at once (R81): the command word on `cmd` and the write data on `wdata` (R80). -/
structure Transaction where
  cmd : Word
  wdata : Word
deriving DecidableEq, Repr

/-- All six modes, in the order of R20. -/
def Mode.all : List Mode := [.system, .fiq, .supervisor, .abort, .irq, .undefined]

/-- All five exception-capable modes, in the order of R38. -/
def ExcMode.all : List ExcMode := [.fiq, .supervisor, .abort, .irq, .undefined]

/-- All eight kinds, in the order of R240. -/
def Kind.all : List Kind :=
  [.reset, .undefinedInstruction, .softwareInterrupt, .prefetchAbort, .dataAbort, .addressExceeds26bit,
    .normalInterrupt, .fastInterrupt]

/-- The mode an exception-capable mode is. -/
def ExcMode.toMode : ExcMode → Mode
  | .fiq => .fiq
  | .supervisor => .supervisor
  | .abort => .abort
  | .irq => .irq
  | .undefined => .undefined

/-- The exception-capable mode a mode is, or none for System, which has no saved flag set (R38). -/
def Mode.exc? : Mode → Option ExcMode
  | .system => none
  | .fiq => some .fiq
  | .supervisor => some .supervisor
  | .abort => some .abort
  | .irq => some .irq
  | .undefined => some .undefined

end Sys2Proof
end

