-- ==== Sys2Proof/Config.lean ====
section
/-! DEFINITION. The block's three parameters (R11) and the free values: opaque constants that stand for what the spec
leaves unspecified. Nothing in Lean can compute or prove a value of an opaque constant. -/

namespace Sys2Proof

/-- The parameter BASE_BANK_SLOTS, whose two legal values are 14 and 15 (R11, R24). -/
inductive BaseBankSlots
  | fourteen
  | fifteen
deriving DecidableEq, Repr

/-- The parameter MODE_ENC: the 5-bit value of Mode[4:0] for each mode (R33). -/
structure ModeEnc where
  system : BitVec 5
  fiq : BitVec 5
  supervisor : BitVec 5
  abort : BitVec 5
  irq : BitVec 5
  undefined : BitVec 5
deriving DecidableEq, Repr

/-- The three named parameters of R11, fixed for one block. VECTOR_BASE may be any address. -/
structure Params where
  baseBankSlots : BaseBankSlots
  modeEnc : ModeEnc
  vectorBase : Word
deriving DecidableEq, Repr

/-- FREE VALUE (log entry 10): what the port `rdata` shows while the newest response carries no data (R91), by the
number of responses presented so far. -/
opaque Config.freeRdata : Nat → Word

/-- FREE VALUE (log entry 10): what the port `kind_out` shows while the newest response is no DISPATCH's (R91). -/
opaque Config.freeKindOut : Nat → BitVec 3

/-- FREE VALUE (log entry 10): what the port `resp` shows before any response has been presented. -/
opaque Config.freeResp : BitVec 1

/-- FREE VALUE (log entry 5): the unspecified 32-bit elements at power-on (R42, R302), numbered. -/
opaque Config.powerOnWord : Nat → Word

/-- FREE VALUE (log entry 5): the unspecified SPSR validity bits at power-on (R42, R302). -/
opaque Config.powerOnValid : ExcMode → Bool

/-- FREE VALUE (log entry 5): the unspecified mode tag at power-on (R42, R302). -/
opaque Config.powerOnMode : Mode

/-- FREE VALUE (log entry 5): the unspecified run-state at power-on (R42, R302). -/
opaque Config.powerOnRunState : RunState

end Sys2Proof
end

