-- ==== Sys2Proof/Syntax.lean ====
section
/-! DEFINITION. The commands of the block, one constructor per row of the opcode table (R84). -/

namespace Sys2Proof

/-- A command with its operands: the fields of the command word that its `op` uses (R82) and the write data where R90
says that it reads any (log entry 1), as R93 writes it. -/
inductive Instr
  /-- RF_READ: a general register as a mode sees it (R121). -/
  | rfRead (sel : ModeSel) (idx : BitVec 4)
  /-- RF_WRITE (R122). -/
  | rfWrite (sel : ModeSel) (idx : BitVec 4) (wdata : Word)
  /-- PC_READ (R123). -/
  | pcRead
  /-- PC_WRITE (R124). -/
  | pcWrite (wdata : Word)
  /-- CPSR_READ (R150). -/
  | cpsrRead
  /-- CPSR_WRITE (R151). -/
  | cpsrWrite (wdata : Word)
  /-- SPSR_READ (R152). -/
  | spsrRead (sel : ModeSel)
  /-- SPSR_WRITE (R153). -/
  | spsrWrite (sel : ModeSel) (wdata : Word)
  /-- MODE_READ (R154). -/
  | modeRead
  /-- RUNSTATE_READ (R155). -/
  | runstateRead
  /-- RUNSTATE_WRITE: only bit 0 of the write data is an operand (R156). -/
  | runstateWrite (r : RunState)
  /-- DISPATCH of the pending vector `pend` (R182). -/
  | dispatch (pend : BitVec 8)
  /-- EXC_RETURN: the write data is the return address (R186). -/
  | excReturn (wdata : Word)
  /-- RESET (R190). -/
  | reset
deriving DecidableEq, Repr

end Sys2Proof
end

