-- ==== Sys2Proof/WellFormed.lean ====
section
/-! DEFINITION. Which commands are well formed: every operand type admits only legal values, but for the reserved mode
selector, which R88 makes an illegal encoding. -/

namespace Sys2Proof

/-- R85, R88: every selector is legal but the reserved value 6. -/
def ModeSel.legal : ModeSel → Bool
  | .mode _ => true
  | .reserved => false
  | .current => true

/-- R88: a command that uses `msel` is legal when its selector is; every other command always is. -/
def Instr.wellFormed : Instr → Bool
  | .rfRead sel _ => sel.legal
  | .rfWrite sel _ _ => sel.legal
  | .pcRead => true
  | .pcWrite _ => true
  | .cpsrRead => true
  | .cpsrWrite _ => true
  | .spsrRead sel => sel.legal
  | .spsrWrite sel _ => sel.legal
  | .modeRead => true
  | .runstateRead => true
  | .runstateWrite _ => true
  | .dispatch _ => true
  | .excReturn _ => true
  | .reset => true

end Sys2Proof
end

