-- ==== Sys2Proof/Decode.lean ====
section
/-! DEFINITION. The decoder of R89, total on every transaction and rejecting by name, the encoder of R82, the opcode
table's match and mask words, and the host's reading of a table word. -/

namespace Sys2Proof

/-- Why a command word is illegal (R88). Each of the three faults IllegalCommand. -/
inductive Illegal
  /-- `op` is 0x0 or 0xF. -/
  | reservedOp
  /-- A 1 in a reserved bit or in a field the command does not use (R83). -/
  | unusedBits
  /-- `msel` is 6 in a command that uses `msel`. -/
  | reservedSelector
deriving DecidableEq, Repr

/-! ### The fields of the command word (R82) -/

/-- `cmd[3:0]`. -/
def opField (cmd : Word) : BitVec 4 := cmd.extractLsb' 0 4

/-- `cmd[6:4]`. -/
def mselField (cmd : Word) : BitVec 3 := cmd.extractLsb' 4 3

/-- `cmd[11:8]`. -/
def idxField (cmd : Word) : BitVec 4 := cmd.extractLsb' 8 4

/-- `cmd[23:16]`. -/
def pendField (cmd : Word) : BitVec 8 := cmd.extractLsb' 16 8

/-- The bits of the fields other than `op` that a command uses (R89). -/
def usedBits (op : BitVec 4) : Word :=
  if op = 0x1 ∨ op = 0x2 then 0x00000F70
  else if op = 0x7 ∨ op = 0x8 then 0x00000070
  else if op = 0xC then 0x00FF0000
  else 0x00000000

/-- Whether a command uses `msel` (R84). -/
def usesMsel (op : BitVec 4) : Bool := usedBits op &&& 0x70 != 0

/-! ### Numbers of modes and run-states -/

/-- The mode index of R85, which MODE_READ answers (R154). -/
def Mode.index : Mode → BitVec 3
  | .system => 0
  | .fiq => 1
  | .supervisor => 2
  | .abort => 3
  | .irq => 4
  | .undefined => 5

/-- The value of `msel` that writes a selector (R85). -/
def ModeSel.toBits : ModeSel → BitVec 3
  | .mode m => m.index
  | .reserved => 6
  | .current => 7

/-- The selector a value of `msel` names (R85). -/
def ModeSel.ofBits (b : BitVec 3) : ModeSel :=
  if b = 0 then .mode .system
  else if b = 1 then .mode .fiq
  else if b = 2 then .mode .supervisor
  else if b = 3 then .mode .abort
  else if b = 4 then .mode .irq
  else if b = 5 then .mode .undefined
  else if b = 6 then .reserved
  else .current

/-- The run-state as a bit: 0 for ARM, 1 for Thumb (R41). -/
def RunState.toBit : RunState → Bool
  | .arm => false
  | .thumb => true

/-- The run-state a bit stands for (R36). -/
def RunState.ofBit (b : Bool) : RunState := if b then .thumb else .arm

/-! ### Decoding -/

/-- The command an operation code names (R84), its operands already taken out of the word. -/
def instrOf (op : BitVec 4) (sel : ModeSel) (idx : BitVec 4) (pend : BitVec 8) (wdata : Word) :
    Except Illegal Instr :=
  if op = 0x1 then .ok (.rfRead sel idx)
  else if op = 0x2 then .ok (.rfWrite sel idx wdata)
  else if op = 0x3 then .ok .pcRead
  else if op = 0x4 then .ok (.pcWrite wdata)
  else if op = 0x5 then .ok .cpsrRead
  else if op = 0x6 then .ok (.cpsrWrite wdata)
  else if op = 0x7 then .ok (.spsrRead sel)
  else if op = 0x8 then .ok (.spsrWrite sel wdata)
  else if op = 0x9 then .ok .modeRead
  else if op = 0xA then .ok .runstateRead
  else if op = 0xB then .ok (.runstateWrite (.ofBit (wdata.getLsbD 0)))
  else if op = 0xC then .ok (.dispatch pend)
  else if op = 0xD then .ok (.excReturn wdata)
  else if op = 0xE then .ok .reset
  else .error .reservedOp

/-- The decoder of R89: its checks in their order, then the command. -/
def decode (t : Transaction) : Except Illegal Instr :=
  if opField t.cmd = 0x0 ∨ opField t.cmd = 0xF then .error .reservedOp
  else if t.cmd &&& ~~~(0x0000000F ||| usedBits (opField t.cmd)) ≠ 0 then .error .unusedBits
  else if usesMsel (opField t.cmd) = true ∧ mselField t.cmd = 6 then .error .reservedSelector
  else
    instrOf (opField t.cmd) (.ofBits (mselField t.cmd)) (idxField t.cmd) (pendField t.cmd) t.wdata

/-! ### Encoding -/

/-- `op | (msel << 4) | (idx << 8) | (pend << 16)` (R82). -/
def assemble (op : BitVec 4) (msel : BitVec 3) (idx : BitVec 4) (pend : BitVec 8) : Word :=
  op.setWidth 32 ||| msel.setWidth 32 <<< 4 ||| idx.setWidth 32 <<< 8 ||| pend.setWidth 32 <<< 16

/-- The command word of a command (R84). -/
def Instr.word : Instr → Word
  | .rfRead sel idx => assemble 0x1 sel.toBits idx 0
  | .rfWrite sel idx _ => assemble 0x2 sel.toBits idx 0
  | .pcRead => assemble 0x3 0 0 0
  | .pcWrite _ => assemble 0x4 0 0 0
  | .cpsrRead => assemble 0x5 0 0 0
  | .cpsrWrite _ => assemble 0x6 0 0 0
  | .spsrRead sel => assemble 0x7 sel.toBits 0 0
  | .spsrWrite sel _ => assemble 0x8 sel.toBits 0 0
  | .modeRead => assemble 0x9 0 0 0
  | .runstateRead => assemble 0xA 0 0 0
  | .runstateWrite _ => assemble 0xB 0 0 0
  | .dispatch pend => assemble 0xC 0 0 pend
  | .excReturn _ => assemble 0xD 0 0 0
  | .reset => assemble 0xE 0 0 0

/-- The write data of a command: its operand where R90 reads `wdata`, and 0 where no bit of it is read. -/
def Instr.data : Instr → Word
  | .rfRead _ _ => 0
  | .rfWrite _ _ v => v
  | .pcRead => 0
  | .pcWrite v => v
  | .cpsrRead => 0
  | .cpsrWrite v => v
  | .spsrRead _ => 0
  | .spsrWrite _ v => v
  | .modeRead => 0
  | .runstateRead => 0
  | .runstateWrite r => if r.toBit then 1 else 0
  | .dispatch _ => 0
  | .excReturn v => v
  | .reset => 0

/-- The transaction that presents a command (R82, R90). -/
def encode (i : Instr) : Transaction := ⟨i.word, i.data⟩

/-! ### The opcode table -/

/-- One row of spec/opcode_table.json: the bits of `mask` are fixed to those of `pattern`. -/
structure OpcodeRow where
  mnemonic : String
  pattern : Word
  mask : Word
deriving DecidableEq, Repr

/-- The rows of spec/opcode_table.json, in its order. -/
def opcodeTable : List OpcodeRow :=
  [⟨"RF_READ", 0x00000001, 0xFFFFF08F⟩,
   ⟨"RF_WRITE", 0x00000002, 0xFFFFF08F⟩,
   ⟨"PC_READ", 0x00000003, 0xFFFFFFFF⟩,
   ⟨"PC_WRITE", 0x00000004, 0xFFFFFFFF⟩,
   ⟨"CPSR_READ", 0x00000005, 0xFFFFFFFF⟩,
   ⟨"CPSR_WRITE", 0x00000006, 0xFFFFFFFF⟩,
   ⟨"SPSR_READ", 0x00000007, 0xFFFFFF8F⟩,
   ⟨"SPSR_WRITE", 0x00000008, 0xFFFFFF8F⟩,
   ⟨"MODE_READ", 0x00000009, 0xFFFFFFFF⟩,
   ⟨"RUNSTATE_READ", 0x0000000A, 0xFFFFFFFF⟩,
   ⟨"RUNSTATE_WRITE", 0x0000000B, 0xFFFFFFFF⟩,
   ⟨"DISPATCH", 0x0000000C, 0xFF00FFFF⟩,
   ⟨"EXC_RETURN", 0x0000000D, 0xFFFFFFFF⟩,
   ⟨"RESET", 0x0000000E, 0xFFFFFFFF⟩]

/-- Whether a command word has a row's fixed bits. -/
def OpcodeRow.matches (r : OpcodeRow) (cmd : Word) : Bool := cmd &&& r.mask == r.pattern

/-- The table's mnemonic of a command. -/
def Instr.mnemonic : Instr → String
  | .rfRead _ _ => "RF_READ"
  | .rfWrite _ _ _ => "RF_WRITE"
  | .pcRead => "PC_READ"
  | .pcWrite _ => "PC_WRITE"
  | .cpsrRead => "CPSR_READ"
  | .cpsrWrite _ => "CPSR_WRITE"
  | .spsrRead _ => "SPSR_READ"
  | .spsrWrite _ _ => "SPSR_WRITE"
  | .modeRead => "MODE_READ"
  | .runstateRead => "RUNSTATE_READ"
  | .runstateWrite _ => "RUNSTATE_WRITE"
  | .dispatch _ => "DISPATCH"
  | .excReturn _ => "EXC_RETURN"
  | .reset => "RESET"

/-! ### The host's table words -/

/-- The transaction a table word lays out: bits 31 to 0 are the command word, the bits above it the write data, and
every bit from `nbits` up is 0 (log entry 3). -/
def tableTransaction (nbits w : Nat) : Transaction :=
  ⟨BitVec.ofNat 32 (w % 2 ^ nbits), BitVec.ofNat 32 (w % 2 ^ nbits / 2 ^ 32)⟩

/-- The command the decoder reads from a table word, or none where it refuses the word. -/
def decodeTableWord (nbits w : Nat) : Option Instr :=
  match decode (tableTransaction nbits w) with
  | .ok i => some i
  | .error _ => none

end Sys2Proof
end

