-- ==== Sys2Proof/Machine/Flags.lean ====
section
/-! DEFINITION. Flag sets: the truncating constructor, the named fields and their positions, the Mode field's encoding
and decoding, and the parameters' default values. Every function here is on words, none on the state. -/

namespace Sys2Proof.Machine

/-- FLAG_MASK of R31: bits 31..27, 24 and 9..0. -/
def flagMask : Word := 0xF90003FF

/-- The truncating constructor `trunc` of R31, through which every stored flag set passes. -/
def trunc (v : Word) : Word := v &&& flagMask

/-! ### The named fields (R32) -/

/-- Signed (N), bit 31. -/
def signed (f : Word) : Bool := f.getLsbD 31

/-- Zero (Z), bit 30. -/
def zero (f : Word) : Bool := f.getLsbD 30

/-- Carry (C), bit 29. -/
def carry (f : Word) : Bool := f.getLsbD 29

/-- Overflow (V), bit 28. -/
def overflow (f : Word) : Bool := f.getLsbD 28

/-- StickyOverflow (Q), bit 27. -/
def stickyOverflow (f : Word) : Bool := f.getLsbD 27

/-- JazelleMode (J), bit 24. -/
def jazelleMode (f : Word) : Bool := f.getLsbD 24

/-- BigEndian (E), bit 9. -/
def bigEndian (f : Word) : Bool := f.getLsbD 9

/-- AbortDisable (A), bit 8. -/
def abortDisable (f : Word) : Bool := f.getLsbD 8

/-- IrqDisable (I), bit 7. -/
def irqDisable (f : Word) : Bool := f.getLsbD 7

/-- FiqDisable (F), bit 6. -/
def fiqDisable (f : Word) : Bool := f.getLsbD 6

/-- State/Thumb (T), bit 5. -/
def thumbBit (f : Word) : Bool := f.getLsbD 5

/-- Mode (M), bits 4:0. -/
def modeField (f : Word) : BitVec 5 := f.extractLsb' 0 5

/-- The mask of IrqDisable (R242). -/
def irqDisableMask : Word := 0x00000080

/-- The mask of FiqDisable (R242). -/
def fiqDisableMask : Word := 0x00000040

/-- The mask of State/Thumb. -/
def thumbMask : Word := 0x00000020

/-- The mask of the Mode field. -/
def modeMask : Word := 0x0000001F

/-- `(f & ~0x1F) | b`: the Mode field replaced, every other bit kept. -/
def setModeField (f : Word) (b : BitVec 5) : Word := f &&& ~~~modeMask ||| b.setWidth 32

/-- Bit 5 replaced by a run-state's bit, every other bit kept (R156, R182 step 4). -/
def setThumbBit (f : Word) (r : RunState) : Word :=
  f &&& ~~~thumbMask ||| (if r.toBit then thumbMask else 0)

/-- The run-state that bit 5 of a flag set records (R36). -/
def runStateOf (f : Word) : RunState := .ofBit (thumbBit f)

/-! ### The Mode field's encoding (R33) -/

/-- MODE_ENC: the Mode field's value for a mode. -/
def encodeMode (e : ModeEnc) : Mode → BitVec 5
  | .system => e.system
  | .fiq => e.fiq
  | .supervisor => e.supervisor
  | .abort => e.abort
  | .irq => e.irq
  | .undefined => e.undefined

/-- MODE_DEC: the mode whose MODE_ENC is `b`, or none (R33). Where a map that is not injective, which R11 makes
illegal, gives two modes one value, the first in the order of R20 is taken (log entry 7). -/
def decodeMode (e : ModeEnc) (b : BitVec 5) : Option Mode :=
  Mode.all.find? fun m => encodeMode e m == b

/-- R11: MODE_ENC is injective. -/
def modeEncLegal (e : ModeEnc) : Bool := decide (Mode.all.map (encodeMode e)).Nodup

/-- The default MODE_ENC of R33. PRESUMED (log entry 6): the spec takes these values from general knowledge. -/
def defaultModeEnc : ModeEnc where
  system := 0x1F
  fiq := 0x11
  irq := 0x12
  supervisor := 0x13
  abort := 0x17
  undefined := 0x1B

/-- The number BASE_BANK_SLOTS (R24). -/
def baseSlotCount : BaseBankSlots → Nat
  | .fourteen => 14
  | .fifteen => 15

/-- The defaults of R11. -/
def defaultParams : Params where
  baseBankSlots := .fifteen
  modeEnc := defaultModeEnc
  vectorBase := 0x00000000

/-! ### The reset flag set -/

/-- The CPSR after RESET: `trunc(0x80 | 0x40 | MODE_ENC(Supervisor))` (R43). -/
def resetFlags (p : Params) : Word :=
  trunc (irqDisableMask ||| fiqDisableMask ||| (encodeMode p.modeEnc .supervisor).setWidth 32)

end Sys2Proof.Machine
end

