-- ==== Sys2Proof/Machine/State.lean ====
section
/-! DEFINITION. The state of the block as plain data (R43), the responses it presents (R9, R91), the reasons it stops,
and the state after a RESET that completes. -/

namespace Sys2Proof.Machine

/-- The codes of the block's faults (R272), which the state element `fault_code` holds (R42). -/
inductive FaultCode
  /-- Code 0: no fault has occurred. -/
  | none
  /-- Code 1: `idx = 15`, or System r14 when BASE_BANK_SLOTS = 14. -/
  | indexOutOfRange
  /-- Code 2: a saved flag set of System, EXC_RETURN in System, or a Mode field that names no mode. -/
  | invalidMode
  /-- Code 3: an unbroken priority tie; never raised (R251, R272). -/
  | dispatchConflict
  /-- Code 4: a command other than RESET before the first RESET. -/
  | notReset
  /-- Code 5: a saved flag set not written since RESET. -/
  | unwrittenRead
  /-- Code 6: an illegal command word. -/
  | illegalCommand
  /-- Code 7: DISPATCH with nothing pending. -/
  | emptyPending
deriving DecidableEq, Repr

/-- What the block presents after a command (R9, R91). -/
inductive Response
  | ok
  | okData (w : Word)
  | okDispatch (oldPc : Word) (k : Kind)
  | fault (code : FaultCode)
deriving DecidableEq, Repr

/-- One item for each exception-capable mode (R38). -/
structure PerExc (α : Type) where
  fiq : α
  supervisor : α
  abort : α
  irq : α
  undefined : α
deriving DecidableEq, Repr

/-- The state of the block (R43) with its parameters (R11) and its two interface histories (R8, R9). -/
structure State where
  /-- The three parameters, which no step changes (R11). -/
  params : Params
  /-- The shared bank; its slot 14 exists only when BASE_BANK_SLOTS = 15 (R24, log entry 8). -/
  base : Vector Word 15
  /-- Fiq's r8 to r14. -/
  fiq : Vector Word 7
  /-- Supervisor's r13 and r14. -/
  svc : Vector Word 2
  /-- Abort's r13 and r14. -/
  abt : Vector Word 2
  /-- Irq's r13 and r14. -/
  irq : Vector Word 2
  /-- Undefined's r13 and r14. -/
  und : Vector Word 2
  /-- The program counter (R29). -/
  pc : Word
  /-- The current flag set (R35). -/
  cpsr : Word
  /-- The five saved flag sets (R38). -/
  spsr : PerExc Word
  /-- Whether each saved flag set has been written since RESET (R39). -/
  spsrValid : PerExc Bool
  /-- The mode tag (R40). -/
  mode : Mode
  /-- The run-state tag (R41). -/
  runState : RunState
  /-- A RESET has completed since power-on (R42). -/
  resetDone : Bool
  /-- A fault has occurred (R42). -/
  halted : Bool
  /-- The code of the fault that halted the block (R42). -/
  faultCode : FaultCode
  /-- The responses presented so far, the newest first (R9, log entry 9). -/
  responses : List Response
  /-- The transactions the driver has yet to present, the next one first (R8, R81, log entry 2). -/
  driver : List Transaction
deriving DecidableEq, Repr

/-- The ways the machine stops. -/
inductive Fault
  /-- Raised by every command and by the step in a halted state: a halted block has no step (R271). The code is
  `fault_code`, kept for the observation. Safe: the hardware stops there too. -/
  | halted (code : FaultCode)
deriving DecidableEq, Repr

/-- The ways the model answers that it has no meaning for a command. -/
inductive Refusal
  /-- Raised only by an arm of `exec` whose command has no meaning yet; no arm of this model raises it. Safe: the
  model stops where the hardware would go on. -/
  | notModelled (mnemonic : String)
deriving DecidableEq, Repr

/-- The state after a RESET that completes on a block that has not faulted, for given parameters (R43). The saved flag
sets' values are the model's choice: no rule reads them before a write (log entry 4). -/
def State.resetWith (p : Params) : State where
  params := p
  base := Vector.replicate 15 0
  fiq := Vector.replicate 7 0
  svc := Vector.replicate 2 0
  abt := Vector.replicate 2 0
  irq := Vector.replicate 2 0
  und := Vector.replicate 2 0
  pc := p.vectorBase
  cpsr := resetFlags p
  spsr := ⟨0, 0, 0, 0, 0⟩
  spsrValid := ⟨false, false, false, false, false⟩
  mode := .supervisor
  runState := .arm
  resetDone := true
  halted := false
  faultCode := .none
  responses := []
  driver := []

/-- The state after RESET with the default parameters (R43; log entry 3 says why this state and not power-on). -/
def State.reset : State := State.resetWith defaultParams

end Sys2Proof.Machine
end

