-- ==== Sys2Proof/Machine/Descriptors.lean ====
section
/-! DEFINITION. The exception descriptor table, a constant of the block (R241), and the priority mux that selects one
pending kind (R250). -/

namespace Sys2Proof

/-- The kind index of R87. -/
def Kind.index : Kind → BitVec 3
  | .reset => 0
  | .undefinedInstruction => 1
  | .softwareInterrupt => 2
  | .prefetchAbort => 3
  | .dataAbort => 4
  | .addressExceeds26bit => 5
  | .normalInterrupt => 6
  | .fastInterrupt => 7

end Sys2Proof

namespace Sys2Proof.Machine

/-- A descriptor (R14): vector offset, priority, entry mode and the disable bits forced on entry. No kind enters System
(R244), so the entry mode is an exception-capable one. -/
structure Descriptor where
  offset : Word
  priority : Nat
  mode : ExcMode
  forceI : Bool
  forceF : Bool
deriving DecidableEq, Repr

/-- The table DESC of R241. -/
def descriptor : Kind → Descriptor
  | .reset => ⟨0x00, 1, .supervisor, true, true⟩
  | .undefinedInstruction => ⟨0x04, 7, .undefined, true, false⟩
  | .softwareInterrupt => ⟨0x08, 6, .supervisor, true, false⟩
  | .prefetchAbort => ⟨0x0C, 5, .abort, true, false⟩
  | .dataAbort => ⟨0x10, 2, .abort, true, false⟩
  | .addressExceeds26bit => ⟨0x14, 2, .supervisor, true, false⟩
  | .normalInterrupt => ⟨0x18, 4, .irq, true, false⟩
  | .fastInterrupt => ⟨0x1C, 3, .fiq, true, true⟩

/-- Whether kind `k` is pending in a pending vector (R87). -/
def isPending (pend : BitVec 8) (k : Kind) : Bool := pend.getLsbD k.index.toNat

/-- Whether `a` comes before `b` by the pair (priority, kind index) of R250. -/
def moreUrgent (a b : Kind) : Bool :=
  (descriptor a).priority < (descriptor b).priority ||
    ((descriptor a).priority == (descriptor b).priority && a.index < b.index)

/-- The more urgent of the best kind so far and one more pending kind. -/
def keepUrgent (best : Option Kind) (k : Kind) : Option Kind :=
  match best with
  | none => some k
  | some b => if moreUrgent k b then some k else some b

/-- `select(pend)` of R250: the pending kind that minimises (priority, kind index); none when none is pending. -/
def select (pend : BitVec 8) : Option Kind :=
  (Kind.all.filter (isPending pend)).foldl keepUrgent none

end Sys2Proof.Machine
end

