-- ==== Sys2Proof/Machine/Operands.lean ====
section
/-! DEFINITION. The operand forms of the commands: the mode a selector names, the slot a register index names, and the
saved flag set a mode owns, each with its read and its write. -/

namespace Sys2Proof

/-- The mode a selector names while `cur` is the current mode (R85, R120); none for the reserved value. -/
def ModeSel.pick (sel : ModeSel) (cur : Mode) : Option Mode :=
  match sel with
  | .mode m => some m
  | .reserved => none
  | .current => some cur

end Sys2Proof

namespace Sys2Proof.Machine

/-- A physical slot of the register file (R24). -/
inductive Slot
  | base (k : Fin 15)
  | fiq (k : Fin 7)
  | svc (k : Fin 2)
  | abt (k : Fin 2)
  | irq (k : Fin 2)
  | und (k : Fin 2)
deriving DecidableEq, Repr

/-- `bank_of(m)[off]` of R26 step 3: the two-slot bank of Supervisor, Abort, Irq or Undefined. -/
def twoSlotBank (m : Mode) (off : Fin 2) : Option Slot :=
  match m with
  | .system => none
  | .fiq => none
  | .supervisor => some (.svc off)
  | .abort => some (.abt off)
  | .irq => some (.irq off)
  | .undefined => some (.und off)

/-- Step 4 of R26: the shared bank, or none for an offset it has no slot for. -/
def sharedSlot (slots : BaseBankSlots) (i : Nat) : Option Slot :=
  if h : i < 15 then (if i < baseSlotCount slots then some (.base ⟨i, h⟩) else none) else none

/-- Step 2 of R26: Fiq's own bank at index `i`, or none for an offset it has no slot for. -/
def fiqSlot (i : Nat) : Option Slot :=
  if h : i - 8 < 7 then some (.fiq ⟨i - 8, h⟩) else none

/-- Steps 3 and 4 of R26: the two-slot bank for r13 and r14 of the modes that own one, else the shared bank. -/
def bankedSlot (slots : BaseBankSlots) (m : Mode) (i : Nat) : Option Slot :=
  if h : 13 ≤ i ∧ i ≤ 14 then
    match twoSlotBank m ⟨i - 13, by omega⟩ with
    | some sl => some sl
    | none => sharedSlot slots i
  else sharedSlot slots i

/-- `resolve(m, i)` of R26; none is its Fault(IndexOutOfRange). -/
def resolve (slots : BaseBankSlots) (m : Mode) (idx : BitVec 4) : Option Slot :=
  if idx.toNat > 14 then none
  else if idx.toNat < 8 then sharedSlot slots idx.toNat
  else if m = .fiq then fiqSlot idx.toNat
  else bankedSlot slots m idx.toNat

/-- The word a slot holds (R23). -/
def State.slot (s : State) : Slot → Word
  | .base k => s.base[k]
  | .fiq k => s.fiq[k]
  | .svc k => s.svc[k]
  | .abt k => s.abt[k]
  | .irq k => s.irq[k]
  | .und k => s.und[k]

/-- A write of one slot (R28): every other slot keeps its word. -/
def State.setSlot (s : State) (sl : Slot) (v : Word) : State :=
  match sl with
  | .base k => { s with base := s.base.set k v }
  | .fiq k => { s with fiq := s.fiq.set k v }
  | .svc k => { s with svc := s.svc.set k v }
  | .abt k => { s with abt := s.abt.set k v }
  | .irq k => { s with irq := s.irq.set k v }
  | .und k => { s with und := s.und.set k v }

/-- The slot `bank(m, i)` of R13 in a state, by its parameters. -/
def State.resolve (s : State) (m : Mode) (idx : BitVec 4) : Option Slot :=
  Machine.resolve s.params.baseBankSlots m idx

/-- The item of one exception-capable mode. -/
def PerExc.get {α : Type} (x : PerExc α) : ExcMode → α
  | .fiq => x.fiq
  | .supervisor => x.supervisor
  | .abort => x.abort
  | .irq => x.irq
  | .undefined => x.undefined

/-- The item of one exception-capable mode replaced. -/
def PerExc.set {α : Type} (x : PerExc α) (m : ExcMode) (a : α) : PerExc α :=
  match m with
  | .fiq => { x with fiq := a }
  | .supervisor => { x with supervisor := a }
  | .abort => { x with abort := a }
  | .irq => { x with irq := a }
  | .undefined => { x with undefined := a }

/-- A saved flag set written, and with it its validity bit (R39). -/
def State.saveFlags (s : State) (m : ExcMode) (f : Word) : State :=
  { s with spsr := s.spsr.set m f, spsrValid := s.spsrValid.set m true }

end Sys2Proof.Machine
end

