-- ==== Sys2Proof/Machine/Ops.lean ====
section
/-! DEFINITION. The named operations the meanings share: presenting a response, faulting, the common checks of R273,
loading a flag set into the CPSR, entering an exception and returning from one, resetting the block, taking the next
transaction, and the output ports. -/

namespace Sys2Proof.Machine

/-- What a command or a step answers. -/
abbrev Result := Host.Outcome State Fault Refusal

/-! ### Responses and faults -/

/-- `respond(r)` of R13. -/
def State.respond (s : State) (r : Response) : State :=
  { s with responses := r :: s.responses }

/-- `raise Fault(code)` of R13 and R270: nothing changes but `halted` and `fault_code`, and the block responds
Fault(code). -/
def State.raise (s : State) (code : FaultCode) : State :=
  { s with halted := true, faultCode := code, responses := .fault code :: s.responses }

/-- A command that completes with a response. -/
def complete (s : State) (r : Response) : Result := .next (s.respond r)

/-- A command that faults (R270). -/
def fail (s : State) (code : FaultCode) : Result := .next (s.raise code)

/-- A halted block has no step (R271). -/
def stuck (s : State) : Result := .fault (.halted s.faultCode)

/-! ### The common checks (R273) -/

/-- The checks of R273 that come after decoding, for a command but RESET: halted, then NotReset. -/
def perform (s : State) (body : Result) : Result :=
  if s.halted then stuck s
  else if s.resetDone then body
  else fail s .notReset

/-- The checks of R273 for a command with a mode selector, whose reserved value is an illegal encoding (R85, R88) and
so comes before NotReset; `body` takes the mode that is selected (R120). -/
def performAs (sel : ModeSel) (s : State) (body : Mode → Result) : Result :=
  match sel.pick s.mode with
  | some m => perform s (body m)
  | none => if s.halted then stuck s else fail s .illegalCommand

/-- The checks of R273 for RESET, which has no NotReset check. -/
def performReset (s : State) (body : Result) : Result :=
  if s.halted then stuck s else body

/-- A step on an illegal command word (R88): IllegalCommand, whether or not the block has been reset. -/
def illegalWord (s : State) : Result := fail s .illegalCommand

/-! ### Flag sets -/

/-- The CPSR loaded with the flag set `f`, whose Mode field names `m`: the mode tag and the run-state follow (R151,
R186). -/
def State.loadFlags (s : State) (f : Word) (m : Mode) : State :=
  { s with cpsr := f, mode := m, runState := runStateOf f }

/-- The mode a flag set's Mode field names, by the block's MODE_ENC. -/
def State.flagsMode (s : State) (f : Word) : Option Mode :=
  decodeMode s.params.modeEnc (modeField f)

/-- The run-state and with it bit 5 of the CPSR (R156). -/
def State.setRunState (s : State) (r : RunState) : State :=
  { s with runState := r, cpsr := setThumbBit s.cpsr r }

/-! ### Exceptions -/

/-- The CPSR after entry by a descriptor (R182 steps 3 and 4): the forced disable bits ORed in, the Mode field set, T
cleared. -/
def entryFlags (p : Params) (d : Descriptor) (f : Word) : Word :=
  setThumbBit
    (setModeField
      (f ||| (if d.forceI then irqDisableMask else 0) ||| (if d.forceF then fiqDisableMask else 0))
      (encodeMode p.modeEnc d.mode.toMode))
    .arm

/-- Step 1 of R182: the current flags into the entry mode's saved flag set, but not for Reset. -/
def State.saveOnEntry (s : State) (k : Kind) : State :=
  if k = .reset then s else s.saveFlags (descriptor k).mode s.cpsr

/-- Taking an exception (R182 steps 1 to 4 and 6). Step 5, the link register, is not the block's (R257). -/
def State.enterException (s : State) (k : Kind) : State :=
  { s.saveOnEntry k with
    mode := (descriptor k).mode.toMode
    cpsr := entryFlags s.params (descriptor k) s.cpsr
    runState := .arm
    pc := s.params.vectorBase + (descriptor k).offset }

/-- Returning from an exception (R186) with the saved flag set `f`, whose Mode field names `m`. -/
def State.returnTo (s : State) (f : Word) (m : Mode) (target : Word) : State :=
  { s.loadFlags f m with pc := target }

/-! ### Reset -/

/-- Every register-file slot 0 (R190). -/
def State.zeroBanks (s : State) : State :=
  { s with
    base := Vector.replicate 15 0
    fiq := Vector.replicate 7 0
    svc := Vector.replicate 2 0
    abt := Vector.replicate 2 0
    irq := Vector.replicate 2 0
    und := Vector.replicate 2 0 }

/-- `reset()` of R190: banks zeroed, the CPSR cleared, ARM, every saved flag set unreadable, then dispatch of the Reset
kind through the dispatcher. -/
def State.resetBlock (s : State) : State :=
  let cleared : State :=
    { s.zeroBanks with
      cpsr := 0
      runState := .arm
      spsrValid := ⟨false, false, false, false, false⟩ }
  { cleared.enterException .reset with resetDone := true }

/-- The block at power-on (R42, R302): nothing reset, nothing halted, every other element an unspecified value, held
as a free value of Config (log entry 5). -/
def State.powerOn (p : Params) : State where
  params := p
  base := Vector.ofFn fun k => Config.powerOnWord k
  fiq := Vector.ofFn fun k => Config.powerOnWord (15 + k)
  svc := Vector.ofFn fun k => Config.powerOnWord (22 + k)
  abt := Vector.ofFn fun k => Config.powerOnWord (24 + k)
  irq := Vector.ofFn fun k => Config.powerOnWord (26 + k)
  und := Vector.ofFn fun k => Config.powerOnWord (28 + k)
  pc := Config.powerOnWord 30
  cpsr := Config.powerOnWord 31
  spsr :=
    ⟨Config.powerOnWord 32, Config.powerOnWord 33, Config.powerOnWord 34, Config.powerOnWord 35,
      Config.powerOnWord 36⟩
  spsrValid :=
    ⟨Config.powerOnValid .fiq, Config.powerOnValid .supervisor, Config.powerOnValid .abort,
      Config.powerOnValid .irq, Config.powerOnValid .undefined⟩
  mode := Config.powerOnMode
  runState := Config.powerOnRunState
  resetDone := false
  halted := false
  faultCode := .none
  responses := []
  driver := []

/-! ### The command port (R80, R81) -/

/-- The transaction the driver presents next, with the state once it has been taken; none when the driver presents
nothing. -/
def State.nextTransaction (s : State) : Option (Transaction × State) :=
  match s.driver with
  | [] => none
  | t :: rest => some (t, { s with driver := rest })

/-- The state with one more transaction, which the driver presents next. -/
def State.present (s : State) (t : Transaction) : State :=
  { s with driver := t :: s.driver }

/-! ### The output ports (R80, R91) -/

/-- The number of a fault code (R272). -/
def FaultCode.toBits : FaultCode → BitVec 3
  | .none => 0
  | .indexOutOfRange => 1
  | .invalidMode => 2
  | .dispatchConflict => 3
  | .notReset => 4
  | .unwrittenRead => 5
  | .illegalCommand => 6
  | .emptyPending => 7

/-- The port `resp`: 0 for a newest response that is no fault, 1 for a fault. -/
def State.respPort (s : State) : BitVec 1 :=
  match s.responses with
  | [] => Config.freeResp
  | .ok :: _ => 0
  | .okData _ :: _ => 0
  | .okDispatch _ _ :: _ => 0
  | .fault _ :: _ => 1

/-- The port `rdata`: the data of the newest response, and a free value where R91 leaves it unspecified. -/
def State.rdataPort (s : State) : Word :=
  match s.responses with
  | [] => Config.freeRdata 0
  | .ok :: rs => Config.freeRdata (rs.length + 1)
  | .okData w :: _ => w
  | .okDispatch oldPc _ :: _ => oldPc
  | .fault _ :: rs => Config.freeRdata (rs.length + 1)

/-- The port `kind_out`: the kind index a DISPATCH took, and a free value for every other newest response. -/
def State.kindOutPort (s : State) : BitVec 3 :=
  match s.responses with
  | [] => Config.freeKindOut 0
  | .ok :: rs => Config.freeKindOut (rs.length + 1)
  | .okData _ :: rs => Config.freeKindOut (rs.length + 1)
  | .okDispatch _ k :: _ => k.index
  | .fault _ :: rs => Config.freeKindOut (rs.length + 1)

/-- The port `fault_code`: the state element of that name. -/
def State.faultCodePort (s : State) : BitVec 3 := s.faultCode.toBits

/-- The port `halted`: the state element of that name. -/
def State.haltedPort (s : State) : Bool := s.halted

end Sys2Proof.Machine
end

