-- ==== Sys2Proof/Machine/ExceptionOps.lean ====
section
/-! DEFINITION. DISPATCH, EXC_RETURN and RESET (42_exception_ops.md). -/

namespace Sys2Proof.Machine

/-- DISPATCH (R182): the most urgent pending kind is entered, and the old pc and the kind are the response. -/
def execDispatch (pend : BitVec 8) (s : State) : Result :=
  perform s <|
    match select pend with
    | none => fail s .emptyPending
    | some k => complete (s.enterException k) (.okDispatch s.pc k)

/-- EXC_RETURN (R186): InvalidMode in System, then UnwrittenRead, then InvalidMode for the saved Mode field. -/
def execExcReturn (wdata : Word) (s : State) : Result :=
  perform s <|
    match s.mode.exc? with
    | none => fail s .invalidMode
    | some e =>
      if s.spsrValid.get e then
        match s.flagsMode (s.spsr.get e) with
        | none => fail s .invalidMode
        | some m => complete (s.returnTo (s.spsr.get e) m wdata) .ok
      else fail s .unwrittenRead

/-- RESET (R190): accepted whether or not the block has been reset. -/
def execReset (s : State) : Result :=
  performReset s (complete s.resetBlock .ok)

end Sys2Proof.Machine
end

