-- ==== Sys2Proof/Machine/RegisterOps.lean ====
section
/-! DEFINITION. The register-file and pc commands: RF_READ, RF_WRITE, PC_READ, PC_WRITE (40_register_ops.md). -/

namespace Sys2Proof.Machine

/-- RF_READ (R121). -/
def execRfRead (sel : ModeSel) (idx : BitVec 4) (s : State) : Result :=
  performAs sel s fun m =>
    match s.resolve m idx with
    | none => fail s .indexOutOfRange
    | some sl => complete s (.okData (s.slot sl))

/-- RF_WRITE (R122). -/
def execRfWrite (sel : ModeSel) (idx : BitVec 4) (wdata : Word) (s : State) : Result :=
  performAs sel s fun m =>
    match s.resolve m idx with
    | none => fail s .indexOutOfRange
    | some sl => complete (s.setSlot sl wdata) .ok

/-- PC_READ (R123). -/
def execPcRead (s : State) : Result :=
  perform s (complete s (.okData s.pc))

/-- PC_WRITE (R124): any value is stored, with no alignment check (R30). -/
def execPcWrite (wdata : Word) (s : State) : Result :=
  perform s (complete { s with pc := wdata } .ok)

end Sys2Proof.Machine
end

