-- ==== Sys2Proof/Machine/StatusOps.lean ====
section
/-! DEFINITION. The status-register, mode and run-state commands: CPSR_READ, CPSR_WRITE, SPSR_READ, SPSR_WRITE,
MODE_READ, RUNSTATE_READ, RUNSTATE_WRITE (41_status_ops.md). -/

namespace Sys2Proof.Machine

/-- CPSR_READ (R150). -/
def execCpsrRead (s : State) : Result :=
  perform s (complete s (.okData s.cpsr))

/-- CPSR_WRITE (R151): the truncated flags, the mode tag and the run-state, or InvalidMode. -/
def execCpsrWrite (wdata : Word) (s : State) : Result :=
  perform s <|
    match s.flagsMode (trunc wdata) with
    | none => fail s .invalidMode
    | some m => complete (s.loadFlags (trunc wdata) m) .ok

/-- SPSR_READ (R152): InvalidMode for System, then UnwrittenRead. -/
def execSpsrRead (sel : ModeSel) (s : State) : Result :=
  performAs sel s fun m =>
    match m.exc? with
    | none => fail s .invalidMode
    | some e =>
      if s.spsrValid.get e then complete s (.okData (s.spsr.get e)) else fail s .unwrittenRead

/-- SPSR_WRITE (R153): the truncated flags; any Mode field is stored. -/
def execSpsrWrite (sel : ModeSel) (wdata : Word) (s : State) : Result :=
  performAs sel s fun m =>
    match m.exc? with
    | none => fail s .invalidMode
    | some e => complete (s.saveFlags e (trunc wdata)) .ok

/-- MODE_READ (R154). -/
def execModeRead (s : State) : Result :=
  perform s (complete s (.okData (s.mode.index.setWidth 32)))

/-- RUNSTATE_READ (R155). -/
def execRunstateRead (s : State) : Result :=
  perform s (complete s (.okData (if s.runState.toBit then 1 else 0)))

/-- RUNSTATE_WRITE (R156). -/
def execRunstateWrite (r : RunState) (s : State) : Result :=
  perform s (complete (s.setRunState r) .ok)

end Sys2Proof.Machine
end

