-- ==== Sys2Proof/Machine/Dispatch.lean ====
section
/-! DEFINITION. One arm per command, each one direct call of its meaning. -/

namespace Sys2Proof.Machine

/-- What a command does in a state. -/
def exec (i : Instr) (s : State) : Host.Outcome State Fault Refusal :=
  match i with
  | .rfRead sel idx => Sys2Proof.Machine.execRfRead sel idx s
  | .rfWrite sel idx wdata => Sys2Proof.Machine.execRfWrite sel idx wdata s
  | .pcRead => Sys2Proof.Machine.execPcRead s
  | .pcWrite wdata => Sys2Proof.Machine.execPcWrite wdata s
  | .cpsrRead => Sys2Proof.Machine.execCpsrRead s
  | .cpsrWrite wdata => Sys2Proof.Machine.execCpsrWrite wdata s
  | .spsrRead sel => Sys2Proof.Machine.execSpsrRead sel s
  | .spsrWrite sel wdata => Sys2Proof.Machine.execSpsrWrite sel wdata s
  | .modeRead => Sys2Proof.Machine.execModeRead s
  | .runstateRead => Sys2Proof.Machine.execRunstateRead s
  | .runstateWrite r => Sys2Proof.Machine.execRunstateWrite r s
  | .dispatch pend => Sys2Proof.Machine.execDispatch pend s
  | .excReturn wdata => Sys2Proof.Machine.execExcReturn wdata s
  | .reset => Sys2Proof.Machine.execReset s

end Sys2Proof.Machine
end

