-- ==== Sys2Proof/Machine/Step.lean ====
section
/-! DEFINITION. One step: the block performs the transaction the driver presents next (R81), and the host's way of
presenting one. -/

namespace Sys2Proof.Machine

/-- One step (R8, R81, R273): a halted block has none; with no transaction presented nothing happens (log entry 2);
else the word is decoded and its command performed, an illegal word faulting IllegalCommand. -/
def step (s : State) : Host.Outcome State Fault Refusal :=
  if s.halted then stuck s
  else
    match s.nextTransaction with
    | none => .next s
    | some (t, s') =>
      match decode t with
      | .error _ => illegalWord s'
      | .ok i => exec i s'

/-- A table word presented as the driver's next transaction (log entry 3). -/
def State.withFetchWord (s : State) (nbits w : Nat) : State :=
  s.present (tableTransaction nbits w)

end Sys2Proof.Machine
end

