-- ==== Sys2Proof/Machine/AddressMap.lean ====
section
/-! DEFINITION. The constant address map that the enclosing system consumes (20_memory.md) and the exception vectors'
addresses in it. No command of the block reads any of it (R61). -/

namespace Sys2Proof.Machine

/-- A named inclusive range `[start, stop]` of R63. -/
structure MemoryRange where
  start : Word
  stop : Word
deriving DecidableEq, Repr

/-- `contains(r, a)` of R64: an unsigned comparison at both ends. -/
def MemoryRange.contains (r : MemoryRange) (a : Word) : Bool := r.start.ule a && a.ule r.stop

/-- `length(r)` of R64: the inclusive byte count. DESIGN CHOICE (log entry 15): R64 leaves open whether the count wraps
like the words of R12 and what an inverted range (`stop < start`) counts; here it is a natural number, 2^32 for the full
range and 1 for an inverted one. No range of R63 is either. -/
def MemoryRange.length (r : MemoryRange) : Nat := r.stop.toNat - r.start.toNat + 1

/-- The five ranges the map names (R63). -/
inductive Region
  | biosRom
  | boardWram
  | chipWram
  | chipWramStack
  | ioRegisters
deriving DecidableEq, Repr

/-- The bounds of a named range (R63). -/
def Region.range : Region → MemoryRange
  | .biosRom => ⟨0x00000000, 0x00003FFF⟩
  | .boardWram => ⟨0x02000000, 0x0203FFFF⟩
  | .chipWram => ⟨0x03000000, 0x03007FFF⟩
  | .chipWramStack => ⟨0x03007F00, 0x03007FFF⟩
  | .ioRegisters => ⟨0x04000000, 0x040003FE⟩

/-- All five named ranges. -/
def Region.all : List Region := [.biosRom, .boardWram, .chipWram, .chipWramStack, .ioRegisters]

/-- The top-level ranges: the stack range lies inside Chip WRAM (R63). -/
def Region.topLevel : List Region := [.biosRom, .boardWram, .chipWram, .ioRegisters]

/-- The values of the enclosing system's parameter BUS_BYTE_ORDER (R67). -/
inductive ByteOrder
  | little
  | big
deriving DecidableEq, Repr

/-- The enclosing system's two open parameters (R66, R67); the block reads neither (log entry 12). -/
structure BusParams where
  byteOrder : ByteOrder
  mappedRanges : List MemoryRange
deriving DecidableEq, Repr

/-- MAPPED_RANGES holds at least the five ranges of R63 (D27). -/
def BusParams.legal (b : BusParams) : Bool :=
  Region.all.all fun r => b.mappedRanges.contains r.range

/-- Whether the bus accepts an address: one in no mapped range must be rejected by the bus (R60, R66). DESIGN CHOICE
(log entry 16): R68 does not state what the bus does with an address that is not a multiple of 4, nor any rule with a word
that runs past its range's end; here the one address alone decides. No command reads this. -/
def BusParams.accepts (b : BusParams) (a : Word) : Bool :=
  b.mappedRanges.any fun r => r.contains a

/-- The vector address of a kind: VECTOR_BASE + offset, modulo 2^32 (R65, R245). -/
def vectorAddress (p : Params) (k : Kind) : Word := p.vectorBase + (descriptor k).offset

end Sys2Proof.Machine
end

