-- ==== Sys2Proof/Machine/Assembler.lean ====
section
/-! DEFINITION. The pseudo-commands of R94 as the core commands they expand to, and the text of commands and responses
in the form of R93. Neither adds any behaviour (D25). -/

namespace Sys2Proof.Machine

/-! ### Pseudo-commands (R94) -/

/-- `RF_READ r<i>`: `RF_READ cur, r<i>`. -/
def pseudoRfRead (idx : BitVec 4) : Instr := .rfRead .current idx

/-- `RF_WRITE r<i>, <word>`: `RF_WRITE cur, r<i>, <word>`. -/
def pseudoRfWrite (idx : BitVec 4) (w : Word) : Instr := .rfWrite .current idx w

/-- `SPSR_READ`: `SPSR_READ cur`. -/
def pseudoSpsrRead : Instr := .spsrRead .current

/-- `SPSR_WRITE <word>`: `SPSR_WRITE cur, <word>`. -/
def pseudoSpsrWrite (w : Word) : Instr := .spsrWrite .current w

/-- `SET_LR <word>`: `RF_WRITE cur, r14, <word>`. -/
def pseudoSetLr (w : Word) : Instr := .rfWrite .current 14 w

/-- The first command of `ENTER_MODE <m>`: CPSR_READ, whose response the driver computes the second from. -/
def pseudoEnterModeRead : Instr := .cpsrRead

/-- The second command of `ENTER_MODE <m>`: `CPSR_WRITE (w & ~0x1F) | MODE_ENC(<m>)`, for the response `w`. -/
def pseudoEnterModeWrite (p : Params) (m : Mode) (w : Word) : Instr :=
  .cpsrWrite (setModeField w (encodeMode p.modeEnc m))

/-! ### Text (R93) -/

/-- One hexadecimal digit. -/
def hexDigit (n : Nat) : String :=
  if n < 10 then String.singleton (Char.ofNat (48 + n)) else String.singleton (Char.ofNat (55 + n))

/-- Four hexadecimal digits of the low 16 bits. -/
def hexQuad (n : Nat) : String :=
  hexDigit (n / 4096 % 16) ++ hexDigit (n / 256 % 16) ++ hexDigit (n / 16 % 16) ++ hexDigit (n % 16)

/-- The eight digits of a word with the separator of R12. -/
def hexWord (w : Word) : String := hexQuad (w.toNat / 65536) ++ "_" ++ hexQuad w.toNat

/-- A word literal. -/
def wordText (w : Word) : String := "0x" ++ hexWord w

/-- The name of a mode in the notation. -/
def modeText : Mode → String
  | .system => "sys"
  | .fiq => "fiq"
  | .supervisor => "svc"
  | .abort => "abt"
  | .irq => "irq"
  | .undefined => "und"

/-- The name of a selector; the reserved value has none. -/
def selText : ModeSel → Option String
  | .mode m => some (modeText m)
  | .reserved => none
  | .current => some "cur"

/-- The name of a kind. -/
def kindText : Kind → String
  | .reset => "RST"
  | .undefinedInstruction => "UND"
  | .softwareInterrupt => "SWI"
  | .prefetchAbort => "PABT"
  | .dataAbort => "DABT"
  | .addressExceeds26bit => "ADDR26"
  | .normalInterrupt => "IRQ"
  | .fastInterrupt => "FIQ"

/-- The name of a register. -/
def regText (idx : BitVec 4) : String :=
  if idx.toNat < 10 then "r" ++ hexDigit idx.toNat else "r1" ++ hexDigit (idx.toNat - 10)

/-- The pending set, in braces. -/
def pendText (pend : BitVec 8) : String :=
  "\x7B" ++ String.intercalate ", " ((Kind.all.filter (isPending pend)).map kindText) ++ "\x7D"

/-- The text of a command; none for one with the reserved selector, for which the notation has no word. -/
def instrText : Instr → Option String
  | .rfRead sel idx => (selText sel).map fun x => "RF_READ " ++ x ++ ", " ++ regText idx
  | .rfWrite sel idx w => (selText sel).map fun x => "RF_WRITE " ++ x ++ ", " ++ regText idx ++ ", " ++ wordText w
  | .pcRead => some "PC_READ"
  | .pcWrite w => some ("PC_WRITE " ++ wordText w)
  | .cpsrRead => some "CPSR_READ"
  | .cpsrWrite w => some ("CPSR_WRITE " ++ wordText w)
  | .spsrRead sel => (selText sel).map fun x => "SPSR_READ " ++ x
  | .spsrWrite sel w => (selText sel).map fun x => "SPSR_WRITE " ++ x ++ ", " ++ wordText w
  | .modeRead => some "MODE_READ"
  | .runstateRead => some "RUNSTATE_READ"
  | .runstateWrite .arm => some "RUNSTATE_WRITE arm"
  | .runstateWrite .thumb => some "RUNSTATE_WRITE thumb"
  | .dispatch pend => some ("DISPATCH " ++ pendText pend)
  | .excReturn w => some ("EXC_RETURN " ++ wordText w)
  | .reset => some "RESET"

/-- The text of a response, as a line `=> <response>` records it. -/
def responseText : Response → String
  | .ok => "Ok"
  | .okData w => "OkData(" ++ hexWord w ++ ")"
  | .okDispatch oldPc k => "OkDispatch(" ++ hexWord oldPc ++ ", " ++ hexDigit k.index.toNat ++ ")"
  | .fault code => "Fault(" ++ hexDigit code.toBits.toNat ++ ")"

end Sys2Proof.Machine
end

