-- ==== Sys2Proof/Safety.lean ====
section
/-! DEFINITION. The terms claims are stated in: when the block accepts commands, what a good state is, how a run ends,
and the driver's duties of R305. -/

namespace Sys2Proof.Machine

/-- The block accepts every command: not halted, and reset once (R42, R273). -/
abbrev State.Running (s : State) : Prop := s.halted = false ∧ s.resetDone = true

/-- A halted block: no step at all (R271). -/
abbrev State.Stuck (s : State) : Prop := s.halted = true

/-- The good end of a run: the driver presents nothing more and no command has faulted (R307). -/
abbrev State.EndsWell (s : State) : Prop := s.driver = [] ∧ s.halted = false

/-- The parameters are legal (R11): BASE_BANK_SLOTS and VECTOR_BASE are by their types, MODE_ENC is if injective. -/
abbrev LegalParams (p : Params) : Prop := modeEncLegal p.modeEnc = true

/-- R35: the Mode field of the CPSR encodes the mode tag. -/
abbrev State.ModeAgrees (s : State) : Prop := s.flagsMode s.cpsr = some s.mode

/-- R36: bit 5 of the CPSR is the run-state. -/
abbrev State.RunStateAgrees (s : State) : Prop := thumbBit s.cpsr = s.runState.toBit

/-- R31, R34: the CPSR and every saved flag set that can be read hold no bit outside FLAG_MASK. -/
abbrev State.FlagsTruncated (s : State) : Prop :=
  trunc s.cpsr = s.cpsr ∧
    ∀ m ∈ ExcMode.all, s.spsrValid.get m = true → trunc (s.spsr.get m) = s.spsr.get m

/-- The fault code is set exactly in a halted block (R42, R270). -/
abbrev State.HaltRecorded (s : State) : Prop := s.halted = true ↔ s.faultCode ≠ .none

/-- The invariant of the block. Before the first RESET only the fault record is constrained (R302). -/
structure State.Inv (s : State) : Prop where
  params : LegalParams s.params
  mode : s.resetDone = true → s.ModeAgrees
  runState : s.resetDone = true → s.RunStateAgrees
  flags : s.resetDone = true → s.FlagsTruncated
  halt : s.HaltRecorded

/-! ### Shorthands of the statements -/

/-- Before the first RESET a command faults NotReset (R42, R273). -/
abbrev NeedsReset (i : Instr) : Prop :=
  ∀ s : State, s.halted = false → s.resetDone = false → exec i s = .next (s.raise .notReset)

/-- `w` is the only legal word with its operation code: a 1 in any other bit is an illegal encoding (R83). -/
abbrev OnlyLegalWord (w : Word) : Prop :=
  ∀ t : Transaction, opField t.cmd = opField w → t.cmd ≠ w → ∃ e, decode t = .error e

/-- A command word with the operation code `op` and a 1 in a bit of `unused` is an illegal encoding (R83, R88). -/
abbrev UnusedBitsIllegal (op : BitVec 4) (unused : Word) : Prop :=
  ∀ t : Transaction, opField t.cmd = op → t.cmd &&& unused ≠ 0 → ∃ e, decode t = .error e

/-- The condition codes and the other bits that no command sets as a side effect: N, Z, C, V, Q, J, E, A (R32). -/
abbrev SameStoredFlags (f g : Word) : Prop :=
  signed f = signed g ∧ zero f = zero g ∧ carry f = carry g ∧ overflow f = overflow g ∧
    stickyOverflow f = stickyOverflow g ∧ jazelleMode f = jazelleMode g ∧ bigEndian f = bigEndian g ∧
    abortDisable f = abortDisable g

/-- The encoding of R88 that faults IllegalCommand, read off a command word bit by bit. -/
abbrev IllegalWord (cmd : Word) : Prop :=
  opField cmd = 0x0 ∨ opField cmd = 0xF ∨
    cmd.getLsbD 7 = true ∨ cmd.extractLsb' 12 4 ≠ 0 ∨ cmd.extractLsb' 24 8 ≠ 0 ∨
    (opField cmd ∉ [0x1, 0x2, 0x7, 0x8] ∧ mselField cmd ≠ 0) ∨
    (opField cmd ∉ [0x1, 0x2] ∧ idxField cmd ≠ 0) ∨
    (opField cmd ≠ 0xC ∧ pendField cmd ≠ 0) ∨
    (opField cmd ∈ [0x1, 0x2, 0x7, 0x8] ∧ mselField cmd = 6)

/-! ### The driver's duties (R305) -/

/-- Duty 1: the pending vector with a masked NormalInterrupt (bit 6) and a masked FastInterrupt (bit 7) left out, by
the I and F bits of the CPSR. -/
def unmaskedPend (cpsr : Word) (pend : BitVec 8) : BitVec 8 :=
  pend &&& ~~~((if irqDisable cpsr then 0x40 else 0) ||| (if fiqDisable cpsr then 0x80 else 0))

/-- Duties 1 and 2: the DISPATCH a driver that masks issues, none when nothing unmasked is pending. -/
def dutifulDispatch (cpsr : Word) (pend : BitVec 8) : Option Instr :=
  if unmaskedPend cpsr pend = 0 then none else some (.dispatch (unmaskedPend cpsr pend))

/-- Duty 3: the command that sets the link register of the mode just entered. -/
def dutifulSetLr (returnAddress : Word) : Instr := pseudoSetLr returnAddress

/-- Duty 4: the commands that save what a re-entry into the current mode would overwrite: its saved flag set and its
link register. -/
def dutifulSave : List Instr := [pseudoSpsrRead, pseudoRfRead 14]

/-- Duty 5: EXC_RETURN is never issued in System. -/
abbrev State.MayReturn (s : State) : Prop := s.mode ≠ .system

/-- Duty 6: the kinds still pending after a DISPATCH that took `k`. -/
def stillPending (pend : BitVec 8) (k : Kind) : BitVec 8 := pend &&& ~~~((1 : BitVec 8) <<< k.index.toNat)

end Sys2Proof.Machine
end

