-- ==== Sys2Proof/Certificates/Slice0/Obligations.lean ====
section
/-! DEFINITION. The statements about the block. Where a statement gives a next state as `{ s with … }`, every field it
does not name is unchanged: that is its frame. -/

open Sys2Proof Sys2Proof.Machine

/-! ### Encoding -/

/-- Decoding an encoded well-formed command gives it back, every operand at every value (R82, R84, R85, R86, R87, R90). -/
def Obligations.DecodeOfEncodeIsTheCommand : Prop :=
  ∀ i : Instr, i.wellFormed = true → decode (encode i) = .ok i

/-- A word that decodes is the word of the command it decodes to, which is well formed; and the write data that R90
says the command reads is the transaction's. -/
def Obligations.DecodedCommandHasTheGivenWord : Prop :=
  ∀ (t : Transaction) (i : Instr), decode t = .ok i →
    i.wellFormed = true ∧ i.word = t.cmd ∧
      (i.data = t.wdata ∨ i.data = t.wdata &&& 1 ∨ i.data = 0) ∧
      (opField t.cmd ∈ [0x2, 0x4, 0x6, 0x8, 0xD] → i.data = t.wdata) ∧
      (opField t.cmd = 0xB → i.data = t.wdata &&& 1)

/-- R83, R88: exactly the illegal encodings fault IllegalCommand in a step, whether or not the block has been reset;
every other word decodes to a command. By the spec's own marks R83 (D2) and R88 (D2, D3, D4) are decisions. -/
def Obligations.IllegalWordsFaultAndAllOthersDecode : Prop :=
  ∀ (s : State) (t : Transaction) (rest : List Transaction), s.halted = false → s.driver = t :: rest →
    (IllegalWord t.cmd → step s = .next ({ s with driver := rest }.raise .illegalCommand)) ∧
    (¬ IllegalWord t.cmd → ∃ i, decode t = .ok i)

/-- R95: the example encodings, with the faults that three of them name. -/
def Obligations.ExampleEncodingsDecodeAsListed : Prop :=
  (∀ v : Word,
    decode ⟨0x0000000E, v⟩ = .ok .reset ∧
    decode ⟨0x00000D01, v⟩ = .ok (.rfRead (.mode .system) 13) ∧
    decode ⟨0x00000811, v⟩ = .ok (.rfRead (.mode .fiq) 8) ∧
    decode ⟨0x00000E72, v⟩ = .ok (.rfWrite .current 14 v) ∧
    decode ⟨0x00000D22, v⟩ = .ok (.rfWrite (.mode .supervisor) 13 v) ∧
    decode ⟨0x00000027, v⟩ = .ok (.spsrRead (.mode .supervisor)) ∧
    decode ⟨0x00000007, v⟩ = .ok (.spsrRead (.mode .system)) ∧
    decode ⟨0x00000006, v⟩ = .ok (.cpsrWrite v) ∧
    decode ⟨0x0004000C, v⟩ = .ok (.dispatch 0x04) ∧
    decode ⟨0x0080000C, v⟩ = .ok (.dispatch 0x80) ∧
    decode ⟨0x0030000C, v⟩ = .ok (.dispatch 0x30) ∧
    decode ⟨0x0000000D, v⟩ = .ok (.excReturn v) ∧
    decode ⟨0x00000F71, v⟩ = .ok (.rfRead .current 15) ∧
    decode ⟨0x00000D61, v⟩ = .error .reservedSelector) ∧
  (∀ s : State, s.Running →
    exec (.spsrRead (.mode .system)) s = .next (s.raise .invalidMode) ∧
    exec (.rfRead .current 15) s = .next (s.raise .indexOutOfRange) ∧
    ∀ (v : Word) (rest : List Transaction), s.driver = ⟨0x00000D61, v⟩ :: rest →
      step s = .next ({ s with driver := rest }.raise .illegalCommand))

/-- The opcode table agrees with the decoder: a decoded word has the fixed bits of its command's row and of no other
row. -/
def Obligations.DecodedWordMatchesExactlyItsTableRow : Prop :=
  ∀ (t : Transaction) (i : Instr), decode t = .ok i →
    ∃ r ∈ opcodeTable, r.mnemonic = i.mnemonic ∧ r.matches t.cmd = true ∧
      ∀ r' ∈ opcodeTable, r'.matches t.cmd = true → r' = r

/-- A word with the fixed bits of a table row decodes to that row's command, unless its selector is the reserved 6. -/
def Obligations.TableRowWordsDecodeToTheirCommand : Prop :=
  ∀ (t : Transaction), ∀ r ∈ opcodeTable, r.matches t.cmd = true →
    (∃ i, decode t = .ok i ∧ i.mnemonic = r.mnemonic) ∨
    (decode t = .error .reservedSelector ∧ mselField t.cmd = 6 ∧
      r.mnemonic ∈ ["RF_READ", "RF_WRITE", "SPSR_READ", "SPSR_WRITE"])

/-! ### The step -/

/-- A step runs the command that the next transaction decodes to, on the state with that transaction taken. -/
def Obligations.StepPerformsTheNextCommand : Prop :=
  ∀ (s : State) (t : Transaction) (rest : List Transaction) (i : Instr),
    s.driver = t :: rest → decode t = .ok i → step s = exec i { s with driver := rest }

/-- R271: a halted block has no step and performs no command, RESET included. By the spec's own marks R271 is a
decision (D18, D28). -/
def Obligations.HaltedBlockHasNoStep : Prop :=
  ∀ s : State, s.halted = true →
    step s = .fault (.halted s.faultCode) ∧ ∀ i : Instr, exec i s = .fault (.halted s.faultCode)

/-- While the driver presents nothing, a block that is not halted stays as it is (the model's choice, log entry 2). -/
def Obligations.NoCommandNoChange : Prop :=
  ∀ s : State, s.halted = false → s.driver = [] → step s = .next s

/-- R81: a step that answers takes exactly one transaction and presents exactly one response. -/
def Obligations.EachStepTakesOneCommandAndAnswersOnce : Prop :=
  ∀ (s s' : State) (t : Transaction) (rest : List Transaction), s.driver = t :: rest → step s = .next s' →
    s'.driver = rest ∧ ∃ r, s'.responses = r :: s.responses

/-- A step never refuses, and it stops only in a halted block. Where the driver presents nothing, that the step answers a
next state is the model's choice (log entry 2), as in `NoCommandNoChange`; no rule gives a step there. -/
def Obligations.OnlyHaltedBlocksStop : Prop :=
  ∀ s : State, s.halted = false → ∃ s', step s = .next s'

/-! ### Registers and the pc -/

/-- R27: the slot of every mode and index. The rows of the first list are r0 to r7, the same in every mode; those of the
second are r8 to r15 in the order of the modes of R20. With BASE_BANK_SLOTS = 14 only System's r14 differs. -/
def Obligations.RegisterMapOfEveryModeAndIndex : Prop :=
  (∀ m ∈ Mode.all, (List.range 8).map (fun i => resolve .fifteen m (BitVec.ofNat 4 i)) =
    [some (.base 0), some (.base 1), some (.base 2), some (.base 3), some (.base 4), some (.base 5), some
      (.base 6), some (.base 7)]) ∧
  Mode.all.map (fun m => (List.range 8).map fun i => resolve .fifteen m (BitVec.ofNat 4 (i + 8))) =
    [[some (.base 8), some (.base 9), some (.base 10), some (.base 11), some (.base 12), some (.base 13), some
       (.base 14), none],
     [some (.fiq 0), some (.fiq 1), some (.fiq 2), some (.fiq 3), some (.fiq 4), some (.fiq 5), some (.fiq 6),
       none],
     [some (.base 8), some (.base 9), some (.base 10), some (.base 11), some (.base 12), some (.svc 0), some
       (.svc 1), none],
     [some (.base 8), some (.base 9), some (.base 10), some (.base 11), some (.base 12), some (.abt 0), some
       (.abt 1), none],
     [some (.base 8), some (.base 9), some (.base 10), some (.base 11), some (.base 12), some (.irq 0), some
       (.irq 1), none],
     [some (.base 8), some (.base 9), some (.base 10), some (.base 11), some (.base 12), some (.und 0), some
       (.und 1), none]] ∧
  resolve .fourteen .system 14 = none ∧
  ∀ (m : Mode) (idx : BitVec 4), ¬ (m = .system ∧ idx = 14) → resolve .fourteen m idx = resolve .fifteen m idx

/-- R121: RF_READ. -/
def Obligations.RfReadAnswersTheSelectedSlot : Prop :=
  ∀ (sel : ModeSel) (idx : BitVec 4),
    (encode (.rfRead sel idx)).cmd = 0x1 ||| sel.toBits.setWidth 32 <<< 4 ||| idx.setWidth 32 <<< 8 ∧
    UnusedBitsIllegal 0x1 0xFFFFF080 ∧
    (∀ (s : State) (m : Mode) (sl : Slot), s.Running → sel.pick s.mode = some m → s.resolve m idx = some sl →
      exec (.rfRead sel idx) s = .next { s with responses := .okData (s.slot sl) :: s.responses }) ∧
    (∀ (s : State) (m : Mode), s.Running → sel.pick s.mode = some m →
      (idx = 15 ∨ m = .system ∧ idx = 14 ∧ s.params.baseBankSlots = .fourteen) →
      exec (.rfRead sel idx) s = .next (s.raise .indexOutOfRange)) ∧
    (sel ≠ .reserved → NeedsReset (.rfRead sel idx)) ∧
    (∀ s : State, s.halted = false → exec (.rfRead .reserved idx) s = .next (s.raise .illegalCommand))

/-- R122: RF_WRITE. The one slot holds the data; every other slot, and every element outside the banks, is as before. -/
def Obligations.RfWriteWritesExactlyTheSelectedSlot : Prop :=
  ∀ (sel : ModeSel) (idx : BitVec 4) (v : Word),
    (encode (.rfWrite sel idx v)).cmd = 0x2 ||| sel.toBits.setWidth 32 <<< 4 ||| idx.setWidth 32 <<< 8 ∧
    UnusedBitsIllegal 0x2 0xFFFFF080 ∧
    (∀ (s : State) (m : Mode) (sl : Slot), s.Running → sel.pick s.mode = some m → s.resolve m idx = some sl →
      ∃ t : State, exec (.rfWrite sel idx v) s = .next t ∧ t.slot sl = v ∧ (∀ sl', sl' ≠ sl → t.slot sl' = s.slot sl') ∧
        t = { s with
          base := t.base, fiq := t.fiq, svc := t.svc, abt := t.abt, irq := t.irq, und := t.und,
          responses := .ok :: s.responses }) ∧
    (∀ (s : State) (m : Mode), s.Running → sel.pick s.mode = some m →
      (idx = 15 ∨ m = .system ∧ idx = 14 ∧ s.params.baseBankSlots = .fourteen) →
      exec (.rfWrite sel idx v) s = .next (s.raise .indexOutOfRange)) ∧
    (sel ≠ .reserved → NeedsReset (.rfWrite sel idx v)) ∧
    (∀ s : State, s.halted = false → exec (.rfWrite .reserved idx v) s = .next (s.raise .illegalCommand))

/-- R28: a write through one mode's view is seen through another exactly when both views name one slot; every other
view, and the pc, is as before. -/
def Obligations.WritesAreSeenExactlyThroughTheSameSlot : Prop :=
  ∀ (s : State) (m m' : Mode) (idx idx' : BitVec 4) (sl sl' : Slot) (v : Word), s.Running →
    s.resolve m idx = some sl → s.resolve m' idx' = some sl' →
    ∃ t : State, exec (.rfWrite (.mode m) idx v) s = .next t ∧ t.pc = s.pc ∧
      exec (.rfRead (.mode m') idx') t = .next (t.respond (.okData (if sl' = sl then v else s.slot sl')))

/-- R123: PC_READ. -/
def Obligations.PcReadAnswersThePc : Prop :=
  (encode .pcRead).cmd = 0x00000003 ∧ OnlyLegalWord 0x00000003 ∧ NeedsReset .pcRead ∧
  ∀ s : State, s.Running → exec .pcRead s = .next { s with responses := .okData s.pc :: s.responses }

/-- R124: PC_WRITE stores any 32-bit value and nothing else. By the spec's own marks R124 is a decision (D21). -/
def Obligations.PcWriteStoresAnyValue : Prop :=
  ∀ v : Word,
    (encode (.pcWrite v)).cmd = 0x00000004 ∧ OnlyLegalWord 0x00000004 ∧ NeedsReset (.pcWrite v) ∧
    ∀ s : State, s.Running → exec (.pcWrite v) s = .next { s with pc := v, responses := .ok :: s.responses }

/-! ### Flag sets, mode and run-state -/

/-- R31, R34: the truncating constructor keeps bits 31 to 27, 24 and 9 to 0 and clears every other bit. -/
def Obligations.TruncationKeepsExactlyTheNamedBits : Prop :=
  (∀ (v : Word) (i : Nat),
    (trunc v).getLsbD i = (v.getLsbD i && (decide (27 ≤ i ∧ i ≤ 31) || decide (i = 24) || decide (i ≤ 9)))) ∧
  trunc 0xFFFFFFFF = 0xF90003FF

/-- R150: CPSR_READ; the word answered has no bit outside FLAG_MASK, the mode's Mode field and the run-state's T bit. -/
def Obligations.CpsrReadAnswersTheCurrentFlags : Prop :=
  (encode .cpsrRead).cmd = 0x00000005 ∧ OnlyLegalWord 0x00000005 ∧ NeedsReset .cpsrRead ∧
  (∀ s : State, s.Running → exec .cpsrRead s = .next { s with responses := .okData s.cpsr :: s.responses }) ∧
  ∀ s : State, s.Running → s.Inv →
    s.cpsr &&& ~~~0xF90003FF = 0 ∧ s.cpsr.extractLsb' 0 5 = encodeMode s.params.modeEnc s.mode ∧
      s.cpsr.getLsbD 5 = decide (s.runState = .thumb)

/-- R151: CPSR_WRITE stores the truncated flags and moves the mode tag and the run-state, or faults InvalidMode. By
the spec's own marks R151 is a decision (D13, D14). -/
def Obligations.CpsrWriteSetsFlagsModeAndRunState : Prop :=
  ∀ v : Word,
    (encode (.cpsrWrite v)).cmd = 0x00000006 ∧ OnlyLegalWord 0x00000006 ∧ NeedsReset (.cpsrWrite v) ∧
    (∀ (s : State) (m : Mode), s.Running → LegalParams s.params →
      v.extractLsb' 0 5 = encodeMode s.params.modeEnc m →
      exec (.cpsrWrite v) s = .next { s with
        cpsr := v &&& 0xF90003FF, mode := m, runState := if v.getLsbD 5 then .thumb else .arm,
        responses := .ok :: s.responses }) ∧
    (∀ s : State, s.Running → (∀ m : Mode, v.extractLsb' 0 5 ≠ encodeMode s.params.modeEnc m) →
      exec (.cpsrWrite v) s = .next (s.raise .invalidMode))

/-- R152: SPSR_READ. InvalidMode for System comes before UnwrittenRead. -/
def Obligations.SpsrReadAnswersAWrittenFlagSet : Prop :=
  ∀ sel : ModeSel,
    (encode (.spsrRead sel)).cmd = 0x7 ||| sel.toBits.setWidth 32 <<< 4 ∧
    UnusedBitsIllegal 0x7 0xFFFFFF80 ∧
    (∀ (s : State) (e : ExcMode), s.Running → sel.pick s.mode = some e.toMode → s.spsrValid.get e = true →
      exec (.spsrRead sel) s = .next { s with responses := .okData (s.spsr.get e) :: s.responses }) ∧
    (∀ s : State, s.Running → sel.pick s.mode = some .system →
      exec (.spsrRead sel) s = .next (s.raise .invalidMode)) ∧
    (∀ (s : State) (e : ExcMode), s.Running → sel.pick s.mode = some e.toMode → s.spsrValid.get e = false →
      exec (.spsrRead sel) s = .next (s.raise .unwrittenRead)) ∧
    (sel ≠ .reserved → NeedsReset (.spsrRead sel)) ∧
    (∀ s : State, s.halted = false → exec (.spsrRead .reserved) s = .next (s.raise .illegalCommand))

/-- R153: SPSR_WRITE stores the truncated flags, any Mode field included, and makes them readable; the other four saved
flag sets are as before. -/
def Obligations.SpsrWriteStoresTruncatedFlags : Prop :=
  ∀ (sel : ModeSel) (v : Word),
    (encode (.spsrWrite sel v)).cmd = 0x8 ||| sel.toBits.setWidth 32 <<< 4 ∧
    UnusedBitsIllegal 0x8 0xFFFFFF80 ∧
    (∀ (s : State) (e : ExcMode), s.Running → sel.pick s.mode = some e.toMode →
      ∃ t : State, exec (.spsrWrite sel v) s = .next t ∧
        t = { s with spsr := t.spsr, spsrValid := t.spsrValid, responses := .ok :: s.responses } ∧
        t.spsr.get e = v &&& 0xF90003FF ∧ t.spsrValid.get e = true ∧
        ∀ e' : ExcMode, e' ≠ e → t.spsr.get e' = s.spsr.get e' ∧ t.spsrValid.get e' = s.spsrValid.get e') ∧
    (∀ s : State, s.Running → sel.pick s.mode = some .system →
      exec (.spsrWrite sel v) s = .next (s.raise .invalidMode)) ∧
    (sel ≠ .reserved → NeedsReset (.spsrWrite sel v)) ∧
    (∀ s : State, s.halted = false → exec (.spsrWrite .reserved v) s = .next (s.raise .illegalCommand))

/-- R154: MODE_READ answers the mode index; the tag agrees with the CPSR's Mode field. By the spec's own marks R154 is
a decision (D3). -/
def Obligations.ModeReadAnswersTheModeIndex : Prop :=
  (encode .modeRead).cmd = 0x00000009 ∧ OnlyLegalWord 0x00000009 ∧ NeedsReset .modeRead ∧
  (∀ s : State, s.Running → s.Inv → s.cpsr.extractLsb' 0 5 = encodeMode s.params.modeEnc s.mode) ∧
  ∀ s : State, s.Running →
    exec .modeRead s = .next { s with
      responses := .okData
        (match s.mode with
          | .system => 0
          | .fiq => 1
          | .supervisor => 2
          | .abort => 3
          | .irq => 4
          | .undefined => 5) :: s.responses }

/-- R155: RUNSTATE_READ answers 1 for Thumb and 0 for ARM, which is bit 5 of the CPSR. By the spec's own marks R155 is
a decision (D3, D13). -/
def Obligations.RunstateReadAnswersTheRunState : Prop :=
  (encode .runstateRead).cmd = 0x0000000A ∧ OnlyLegalWord 0x0000000A ∧ NeedsReset .runstateRead ∧
  (∀ s : State, s.Running → s.Inv → s.cpsr.getLsbD 5 = decide (s.runState = .thumb)) ∧
  ∀ s : State, s.Running →
    exec .runstateRead s = .next { s with
      responses := .okData (if s.runState = .thumb then 1 else 0) :: s.responses }

/-- R156: RUNSTATE_WRITE sets the run-state and bit 5 of the CPSR from bit 0 of the write data, and no other bit. By
the spec's own marks R156 is a decision (D3, D13, D24). -/
def Obligations.RunstateWriteSetsOnlyTheTBit : Prop :=
  OnlyLegalWord 0x0000000B ∧
  (∀ v : Word, decode ⟨0x0000000B, v⟩ = .ok (.runstateWrite (if v.getLsbD 0 then .thumb else .arm))) ∧
  ∀ r : RunState, NeedsReset (.runstateWrite r) ∧
    ∀ s : State, s.Running → ∃ c : Word,
      exec (.runstateWrite r) s = .next { s with runState := r, cpsr := c, responses := .ok :: s.responses } ∧
      c.getLsbD 5 = decide (r = .thumb) ∧ ∀ i : Nat, i ≠ 5 → c.getLsbD i = s.cpsr.getLsbD i

/-! ### Exceptions -/

/-- R241: the descriptor table. -/
def Obligations.DescriptorTableRows : Prop :=
  Kind.all.map (fun k => (k.index, descriptor k)) =
    [(0, ⟨0x00, 1, .supervisor, true, true⟩),
     (1, ⟨0x04, 7, .undefined, true, false⟩),
     (2, ⟨0x08, 6, .supervisor, true, false⟩),
     (3, ⟨0x0C, 5, .abort, true, false⟩),
     (4, ⟨0x10, 2, .abort, true, false⟩),
     (5, ⟨0x14, 2, .supervisor, true, false⟩),
     (6, ⟨0x18, 4, .irq, true, false⟩),
     (7, ⟨0x1C, 3, .fiq, true, true⟩)] ∧
  ∀ k : Kind, k ∈ Kind.all

/-- R246: the vector addresses under the default VECTOR_BASE. -/
def Obligations.DefaultVectorAddresses : Prop :=
  Kind.all.map (vectorAddress defaultParams) =
    [0x00000000, 0x00000004, 0x00000008, 0x0000000C, 0x00000010, 0x00000014, 0x00000018, 0x0000001C] ∧
  ∀ (s : State) (k : Kind), (s.enterException k).pc = vectorAddress s.params k

/-- R250, R251, R252: the priority mux takes the first pending kind of one fixed order, which is the minimum by
(priority, kind index); it takes none exactly when nothing is pending. By the spec's own marks R250 and R251 are
decisions (D9). -/
def Obligations.PriorityMuxIsTheFixedOrderScan : Prop :=
  ∀ pend : BitVec 8,
    select pend =
      [Kind.reset, .dataAbort, .addressExceeds26bit, .fastInterrupt, .normalInterrupt, .prefetchAbort,
        .softwareInterrupt, .undefinedInstruction].find? (fun k => pend.getLsbD k.index.toNat) ∧
    (select pend = none ↔ pend = 0) ∧
    ∀ k : Kind, select pend = some k → ∀ j : Kind, pend.getLsbD j.index.toNat = true →
      (descriptor k).priority < (descriptor j).priority ∨
        ((descriptor k).priority = (descriptor j).priority ∧ k.index ≤ j.index)

/-- R182: DISPATCH, with every fault it can raise. By the spec's own marks R182 is a decision (D9, D10, D12, D13). -/
def Obligations.DispatchEntersTheSelectedKind : Prop :=
  ∀ pend : BitVec 8,
    (encode (.dispatch pend)).cmd = 0xC ||| pend.setWidth 32 <<< 16 ∧ UnusedBitsIllegal 0xC 0xFF00FFF0 ∧
    NeedsReset (.dispatch pend) ∧
    (pend = 0 → ∀ s : State, s.Running → exec (.dispatch pend) s = .next (s.raise .emptyPending)) ∧
    ∀ (s : State) (k : Kind), s.Running → select pend = some k →
      exec (.dispatch pend) s = .next { s with
        spsr := if k = .reset then s.spsr else s.spsr.set (descriptor k).mode s.cpsr
        spsrValid := if k = .reset then s.spsrValid else s.spsrValid.set (descriptor k).mode true
        mode := (descriptor k).mode.toMode
        cpsr := ((s.cpsr ||| (if (descriptor k).forceI then 0x00000080 else 0) |||
            (if (descriptor k).forceF then 0x00000040 else 0)) &&& ~~~0x0000001F |||
            (encodeMode s.params.modeEnc (descriptor k).mode.toMode).setWidth 32) &&& ~~~0x00000020
        runState := .arm
        pc := s.params.vectorBase + (descriptor k).offset
        responses := .okDispatch s.pc k :: s.responses }

/-- R184: DISPATCH with Reset pending performs steps 2, 3, 4 and 6 only: no bank, saved flag set or validity bit
changes. -/
def Obligations.DispatchOfResetIsNoReset : Prop :=
  ∀ (s : State) (pend : BitVec 8), s.Running → pend.getLsbD 0 = true →
    exec (.dispatch pend) s = .next { s with
      mode := .supervisor
      cpsr := (s.cpsr ||| 0x000000C0) &&& ~~~0x0000003F |||
        (encodeMode s.params.modeEnc .supervisor).setWidth 32
      runState := .arm
      pc := s.params.vectorBase
      responses := .okDispatch s.pc .reset :: s.responses }

/-- R182, flags written: I is set, F is set for Reset and FastInterrupt and otherwise kept, T is cleared, M is the entry
mode's, and every other bit is kept. -/
def Obligations.EntryFlagsBitByBit : Prop :=
  ∀ (s : State) (k : Kind),
    irqDisable (s.enterException k).cpsr = true ∧
    fiqDisable (s.enterException k).cpsr =
      (fiqDisable s.cpsr || decide (k = .reset ∨ k = .fastInterrupt)) ∧
    thumbBit (s.enterException k).cpsr = false ∧
    modeField (s.enterException k).cpsr = encodeMode s.params.modeEnc (descriptor k).mode.toMode ∧
    ∀ i : Nat, 8 ≤ i → (s.enterException k).cpsr.getLsbD i = s.cpsr.getLsbD i

/-- R253: the dispatcher does not read the disable bits: with any two CPSRs the same kind is taken, to the same mode
and pc. By the spec's own marks R253 is a decision (D11). -/
def Obligations.DispatchReadsNoDisableBit : Prop :=
  ∀ (s : State) (f : Word) (pend : BitVec 8), s.Running → pend ≠ 0 →
    ∃ (k : Kind) (t u : State),
      exec (.dispatch pend) s = .next t ∧ exec (.dispatch pend) { s with cpsr := f } = .next u ∧
      t.responses = .okDispatch s.pc k :: s.responses ∧ u.responses = t.responses ∧
      u.pc = t.pc ∧ u.mode = t.mode ∧ pend.getLsbD k.index.toNat = true

/-- R254: a kind that is not selected is forgotten: two pending vectors with one selection leave one state. -/
def Obligations.UnselectedKindsLeaveNoTrace : Prop :=
  ∀ (s : State) (p q : BitVec 8), select p = select q → exec (.dispatch p) s = exec (.dispatch q) s

/-- R186: EXC_RETURN, with its faults in their order (R273). Where it completes, SPSR_READ cur, CPSR_WRITE of what it
answered and PC_WRITE leave the same state but for the responses. By the spec's own marks R186 is a decision (D17,
D20). -/
def Obligations.ExcReturnRestoresTheSavedFlags : Prop :=
  ∀ v : Word,
    (encode (.excReturn v)).cmd = 0x0000000D ∧ OnlyLegalWord 0x0000000D ∧ NeedsReset (.excReturn v) ∧
    (∀ (s : State) (e : ExcMode) (m : Mode), s.Running → LegalParams s.params → s.mode = e.toMode →
      s.spsrValid.get e = true → (s.spsr.get e).extractLsb' 0 5 = encodeMode s.params.modeEnc m →
      exec (.excReturn v) s = .next { s with
        cpsr := s.spsr.get e, mode := m, runState := if (s.spsr.get e).getLsbD 5 then .thumb else .arm,
        pc := v, responses := .ok :: s.responses }) ∧
    (∀ s : State, s.Running → s.mode = .system → exec (.excReturn v) s = .next (s.raise .invalidMode)) ∧
    (∀ (s : State) (e : ExcMode), s.Running → s.mode = e.toMode → s.spsrValid.get e = false →
      exec (.excReturn v) s = .next (s.raise .unwrittenRead)) ∧
    (∀ (s : State) (e : ExcMode), s.Running → s.mode = e.toMode → s.spsrValid.get e = true →
      (∀ m : Mode, (s.spsr.get e).extractLsb' 0 5 ≠ encodeMode s.params.modeEnc m) →
      exec (.excReturn v) s = .next (s.raise .invalidMode)) ∧
    ∀ s t : State, s.Inv → s.Running → exec (.excReturn v) s = .next t → t.halted = false →
      ∃ (f : Word) (a b c : State),
        exec (.spsrRead .current) s = .next a ∧ a.responses = .okData f :: s.responses ∧
        exec (.cpsrWrite f) a = .next b ∧ exec (.pcWrite v) b = .next c ∧
        c = { t with responses := .ok :: .ok :: .okData f :: s.responses }

/-- R257, R258: an exception taken and returned from leaves the interrupted state, with the pc the driver gives, and the
entry mode's saved flag set holding the interrupted flags. -/
def Obligations.DispatchThenReturnRestoresTheState : Prop :=
  ∀ (s : State) (pend : BitVec 8) (k : Kind) (v : Word), s.Inv → s.Running → select pend = some k → k ≠ .reset →
    ∃ t u : State, exec (.dispatch pend) s = .next t ∧ exec (.excReturn v) t = .next u ∧
      u = { s with
        pc := v
        spsr := s.spsr.set (descriptor k).mode s.cpsr
        spsrValid := s.spsrValid.set (descriptor k).mode true
        responses := .ok :: .okDispatch s.pc k :: s.responses }

/-- R259: an exception taken inside another one, into a different mode, and both returned from in turn leave the
interrupted state. -/
def Obligations.NestedExceptionsReturnInTurn : Prop :=
  ∀ (s : State) (p q : BitVec 8) (j k : Kind) (v w : Word), s.Inv → s.Running →
    select p = some j → select q = some k → j ≠ .reset → k ≠ .reset → (descriptor j).mode ≠ (descriptor k).mode →
    ∃ a b c d : State,
      exec (.dispatch p) s = .next a ∧ exec (.dispatch q) a = .next b ∧
      exec (.excReturn v) b = .next c ∧ exec (.excReturn w) c = .next d ∧
      c.mode = a.mode ∧ c.cpsr = a.cpsr ∧ c.runState = a.runState ∧
      d = { s with
        pc := w
        spsr := d.spsr
        spsrValid := d.spsrValid
        responses := d.responses }

/-- R259: an exception taken inside another one, into the same mode, overwrites that mode's saved flags. -/
def Obligations.ReentryOverwritesTheSavedFlags : Prop :=
  ∀ (s : State) (p q : BitVec 8) (j k : Kind), s.Running →
    select p = some j → select q = some k → k ≠ .reset → (descriptor j).mode = (descriptor k).mode →
    ∃ a b : State, exec (.dispatch p) s = .next a ∧ exec (.dispatch q) a = .next b ∧
      b.spsr.get (descriptor k).mode = a.cpsr ∧ b.spsrValid.get (descriptor k).mode = true

/-! ### Reset and power-on -/

/-- R190: RESET from any state that is not halted, whether or not the block has been reset before. The saved flag
sets' words are unchanged. A second RESET leaves the state of the first. By the spec's own marks R190 is a decision
(D16, D17). -/
def Obligations.ResetGivesTheResetState : Prop :=
  (encode .reset).cmd = 0x0000000E ∧ OnlyLegalWord 0x0000000E ∧
  (∀ s t : State, exec .reset s = .next t → exec .reset t = .next { t with responses := .ok :: t.responses }) ∧
  ∀ s : State, s.halted = false →
    exec .reset s = .next { s with
      base := Vector.replicate 15 0
      fiq := Vector.replicate 7 0
      svc := Vector.replicate 2 0
      abt := Vector.replicate 2 0
      irq := Vector.replicate 2 0
      und := Vector.replicate 2 0
      cpsr := 0x00000080 ||| 0x00000040 ||| (encodeMode s.params.modeEnc .supervisor).setWidth 32
      spsrValid := ⟨false, false, false, false, false⟩
      mode := .supervisor
      runState := .arm
      pc := s.params.vectorBase
      resetDone := true
      responses := .ok :: s.responses }

/-- What a RESET that completes leaves, element by element (R43, R300), and that `State.reset` is that state for the
default parameters. The two numbers of the last line rest on the defaults of R11: 0x13 for Supervisor is marked in R33 as
from general knowledge (log entry 6), and taking this state as the machine's reset state is log entry 3. -/
def Obligations.ResetStateValues : Prop :=
  (∀ s : State, s.halted = false → ∃ t : State, exec .reset s = .next t ∧
    t = { State.resetWith s.params with
      spsr := s.spsr, faultCode := s.faultCode, driver := s.driver, responses := .ok :: s.responses }) ∧
  (∀ (p : Params) (sl : Slot), (State.resetWith p).slot sl = 0) ∧
  (∀ p : Params,
    (State.resetWith p).pc = p.vectorBase ∧
    (State.resetWith p).cpsr = trunc (0x80 ||| 0x40 ||| (encodeMode p.modeEnc .supervisor).setWidth 32) ∧
    (∀ m : ExcMode, (State.resetWith p).spsrValid.get m = false) ∧
    (State.resetWith p).mode = .supervisor ∧ (State.resetWith p).runState = .arm ∧
    (State.resetWith p).resetDone = true) ∧
  State.reset = State.resetWith defaultParams ∧
  State.reset.pc = 0x00000000 ∧ State.reset.cpsr = 0x000000D3

/-- R302: at power-on every command but RESET faults NotReset, and RESET leaves the state of R43 but for the saved flag
sets' words, which no command can read. -/
def Obligations.PowerOnAcceptsOnlyReset : Prop :=
  ∀ p : Params,
    (State.powerOn p).resetDone = false ∧ (State.powerOn p).halted = false ∧
    (State.powerOn p).faultCode = .none ∧
    (∀ i : Instr, i.wellFormed = true → i ≠ .reset →
      exec i (State.powerOn p) = .next ((State.powerOn p).raise .notReset)) ∧
    ∃ t : State, exec .reset (State.powerOn p) = .next t ∧
      t = { State.resetWith p with spsr := (State.powerOn p).spsr, responses := [.ok] }

/-! ### The whole machine -/

/-- The invariant holds after RESET, for every legal choice of the parameters. -/
def Obligations.InvariantHoldsAfterReset : Prop :=
  State.reset.Inv ∧ ∀ p : Params, LegalParams p → (State.resetWith p).Inv

/-- R35, R36, R34, R42: every step keeps the invariant: the mode tag agrees with the CPSR's Mode field, the run-state
with its T bit, no readable flag set holds a bit outside FLAG_MASK, and the fault code is set exactly when halted. -/
def Obligations.EveryStepKeepsTheInvariant : Prop :=
  ∀ s s' : State, s.Inv → step s = .next s' → s'.Inv

/-- R11, R245: no step changes a parameter. -/
def Obligations.NoStepChangesAParameter : Prop :=
  ∀ s s' : State, step s = .next s' → s'.params = s.params

/-- R30: the pc is written only by PC_WRITE, DISPATCH, EXC_RETURN and RESET. -/
def Obligations.OnlyFourCommandsWriteThePc : Prop :=
  ∀ (i : Instr) (s t : State), exec i s = .next t →
    (∀ v, i ≠ .pcWrite v) → (∀ p, i ≠ .dispatch p) → (∀ v, i ≠ .excReturn v) → i ≠ .reset → t.pc = s.pc

/-- R40, R180: the mode is written only by CPSR_WRITE, DISPATCH, EXC_RETURN and RESET. -/
def Obligations.OnlyFourCommandsWriteTheMode : Prop :=
  ∀ (i : Instr) (s t : State), exec i s = .next t →
    (∀ v, i ≠ .cpsrWrite v) → (∀ p, i ≠ .dispatch p) → (∀ v, i ≠ .excReturn v) → i ≠ .reset → t.mode = s.mode

/-- R32: N, Z, C, V, Q, J, E and A change only by CPSR_WRITE and EXC_RETURN, and RESET clears them (R190): the last clause
says that RESET of a block that is not halted completes with all eight 0. -/
def Obligations.NoSideEffectOnStoredFlags : Prop :=
  (∀ (i : Instr) (s t : State), exec i s = .next t →
    (∀ v, i ≠ .cpsrWrite v) → (∀ v, i ≠ .excReturn v) → i ≠ .reset → SameStoredFlags t.cpsr s.cpsr) ∧
  ∀ s : State, s.halted = false → ∃ t : State, exec .reset s = .next t ∧ SameStoredFlags t.cpsr 0

/-- R122, R190: a register-file slot changes only by RF_WRITE and RESET. -/
def Obligations.OnlyTwoCommandsWriteRegisters : Prop :=
  ∀ (i : Instr) (s t : State) (sl : Slot), exec i s = .next t →
    (∀ sel idx v, i ≠ .rfWrite sel idx v) → i ≠ .reset → t.slot sl = s.slot sl

/-- R39: a saved flag set changes only by SPSR_WRITE and DISPATCH, which leave it readable, and only RESET makes one
unreadable. -/
def Obligations.OnlyTwoCommandsWriteSavedFlags : Prop :=
  ∀ (i : Instr) (s t : State) (m : ExcMode), exec i s = .next t →
    (t.spsr.get m ≠ s.spsr.get m → t.spsrValid.get m = true ∧
      ((∃ sel v, i = .spsrWrite sel v) ∨ ∃ p, i = .dispatch p)) ∧
    (s.spsrValid.get m = true → i ≠ .reset → t.spsrValid.get m = true)

/-- R270: a step that faults changes nothing but the fault record, and responds with the fault. By the spec's own
marks R270 is a decision (D18). -/
def Obligations.FaultingStepChangesOnlyTheFaultRecord : Prop :=
  ∀ (s s' : State) (t : Transaction) (rest : List Transaction), s.driver = t :: rest → step s = .next s' →
    s'.halted = true →
    ∃ c : FaultCode, c ≠ .none ∧
      s' = { s with
        driver := rest, halted := true, faultCode := c, responses := .fault c :: s.responses }

/-- R251, R263, R272: DispatchConflict is never raised. -/
def Obligations.DispatchConflictIsNeverRaised : Prop :=
  ∀ s s' : State, step s = .next s' → s'.faultCode = .dispatchConflict → s.faultCode = .dispatchConflict

/-- R272: the numbers of the fault codes. -/
def Obligations.FaultCodeNumbers : Prop :=
  [FaultCode.none, .indexOutOfRange, .invalidMode, .dispatchConflict, .notReset, .unwrittenRead, .illegalCommand,
    .emptyPending].map FaultCode.toBits = [0, 1, 2, 3, 4, 5, 6, 7]

/-- R80, R91: what the output ports show for the newest response. -/
def Obligations.OutputPortsShowTheNewestResponse : Prop :=
  ∀ s : State,
    (s.respond .ok).respPort = 0 ∧
    (∀ w, (s.respond (.okData w)).respPort = 0 ∧ (s.respond (.okData w)).rdataPort = w) ∧
    (∀ pc k, (s.respond (.okDispatch pc k)).respPort = 0 ∧ (s.respond (.okDispatch pc k)).rdataPort = pc ∧
      (s.respond (.okDispatch pc k)).kindOutPort = k.index) ∧
    ∀ c, (s.raise c).respPort = 1 ∧ (s.raise c).faultCodePort = c.toBits ∧ (s.raise c).haltedPort = true

/-! ### The address map and the driver -/

/-- R63: the named ranges with their sizes. -/
def Obligations.NamedRangesAndSizes : Prop :=
  Region.all.map (fun r => (r.range.start, r.range.stop, r.range.length)) =
    [(0x00000000, 0x00003FFF, 0x4000), (0x02000000, 0x0203FFFF, 0x40000), (0x03000000, 0x03007FFF, 0x8000),
      (0x03007F00, 0x03007FFF, 0x100), (0x04000000, 0x040003FE, 0x3FF)]

/-- R64: a range holds exactly as many addresses as its length, counted up from its start. For the full 32-bit range the
length 2^32 is the model's choice (log entry 15). -/
def Obligations.RangeHoldsLengthManyAddresses : Prop :=
  ∀ (r : MemoryRange) (a : Word), r.start ≤ r.stop →
    (r.contains a = true ↔ ∃ n : Nat, n < r.length ∧ a = r.start + BitVec.ofNat 32 n)

/-- R63: the top-level ranges do not overlap, and the stack range lies inside Chip WRAM. -/
def Obligations.TopLevelRangesAreDisjoint : Prop :=
  (∀ r ∈ Region.topLevel, ∀ r' ∈ Region.topLevel, ∀ a : Word,
    r.range.contains a = true → r'.range.contains a = true → r = r') ∧
  ∀ a : Word, Region.chipWramStack.range.contains a = true → Region.chipWram.range.contains a = true

/-- R65: under the default VECTOR_BASE every vector lies in BIOS ROM. -/
def Obligations.DefaultVectorsLieInBiosRom : Prop :=
  ∀ k : Kind, Region.biosRom.range.contains (vectorAddress defaultParams k) = true

/-- R94: ENTER_MODE enters the mode and keeps every flag but the Mode field. -/
def Obligations.EnterModeKeepsTheOtherFlags : Prop :=
  ∀ (s : State) (m : Mode), s.Inv → s.Running →
    ∃ t u : State, exec pseudoEnterModeRead s = .next t ∧ t.responses = .okData s.cpsr :: s.responses ∧
      exec (pseudoEnterModeWrite s.params m s.cpsr) t = .next u ∧
      u.mode = m ∧ u.runState = s.runState ∧ (∀ i : Nat, 5 ≤ i → u.cpsr.getLsbD i = s.cpsr.getLsbD i)

/-- R305: a driver that leaves masked interrupts out never has one taken, and never presents an empty vector. -/
def Obligations.DutifulDriverTakesNoMaskedInterrupt : Prop :=
  ∀ (f : Word) (pend p : BitVec 8), dutifulDispatch f pend = some (.dispatch p) →
    ∃ k : Kind, select p = some k ∧ pend.getLsbD k.index.toNat = true ∧
      (k = .normalInterrupt → irqDisable f = false) ∧ (k = .fastInterrupt → fiqDisable f = false)
end

