-- ==== Sys2Proof/Laws/Flags.lean ====
section
/-! SUPPORT. Flag sets bit by bit: what truncation, the Mode field and the T bit do to each bit, and that MODE_DEC
undoes a legal MODE_ENC. -/

namespace Sys2Proof.Machine

/-- Truncation keeps the bits of FLAG_MASK (R31). -/
theorem getLsbD_trunc (v : Word) (i : Nat) : (trunc v).getLsbD i = (v.getLsbD i && flagMask.getLsbD i) := by
  simp [trunc]

@[simp] theorem trunc_trunc (v : Word) : trunc (trunc v) = trunc v := by
  simp [trunc, BitVec.and_assoc]

theorem getLsbD_modeMask (i : Nat) : modeMask.getLsbD i = decide (i < 5) := by
  rcases Nat.lt_or_ge i 32 with h | h
  · interval_cases i <;> rfl
  · rw [BitVec.getLsbD_of_ge _ _ h]; simp; omega

theorem getLsbD_thumbMask (i : Nat) : thumbMask.getLsbD i = decide (i = 5) := by
  rcases Nat.lt_or_ge i 32 with h | h
  · interval_cases i <;> rfl
  · rw [BitVec.getLsbD_of_ge _ _ h]; simp; omega

/-- A replaced Mode field: the new bits below 5, the old ones from 5 up. -/
theorem getLsbD_setModeField (f : Word) (b : BitVec 5) (i : Nat) :
    (setModeField f b).getLsbD i = if i < 5 then b.getLsbD i else f.getLsbD i := by
  rcases Nat.lt_or_ge i 32 with h | h
  · simp only [setModeField, BitVec.getLsbD_or, BitVec.getLsbD_and, BitVec.getLsbD_not, getLsbD_modeMask,
      BitVec.getLsbD_setWidth, h, decide_true, Bool.true_and]
    by_cases h5 : i < 5
    · simp only [h5, decide_true, Bool.not_true, Bool.and_false, Bool.false_or, if_true]
    · simp only [h5, decide_false, Bool.not_false, Bool.and_true, if_false,
        BitVec.getLsbD_of_ge b i (by omega), Bool.or_false]
  · rw [BitVec.getLsbD_of_ge _ _ h, BitVec.getLsbD_of_ge f _ h, if_neg (by omega)]

/-- A replaced T bit: the run-state's bit at 5, every other bit kept. -/
theorem getLsbD_setThumbBit (f : Word) (r : RunState) (i : Nat) :
    (setThumbBit f r).getLsbD i = if i = 5 then r.toBit else f.getLsbD i := by
  rcases Nat.lt_or_ge i 32 with h | h
  · have h0 : BitVec.getLsbD (0 : Word) i = false := BitVec.getLsbD_zero
    by_cases h5 : i = 5 <;> cases r <;>
      simp only [setThumbBit, RunState.toBit, BitVec.getLsbD_or, BitVec.getLsbD_and, BitVec.getLsbD_not,
        getLsbD_thumbMask, h0, h, h5, decide_true, decide_false, if_true, if_false, Bool.not_true,
        Bool.not_false, Bool.and_true, Bool.and_false, Bool.or_false, Bool.false_or, Bool.false_eq_true]
    simp only [← h5, h0]
  · rw [BitVec.getLsbD_of_ge _ _ h, BitVec.getLsbD_of_ge f _ h, if_neg (by omega)]

@[simp] theorem modeField_setModeField (f : Word) (b : BitVec 5) : modeField (setModeField f b) = b := by
  apply BitVec.eq_of_getLsbD_eq
  intro i h
  rw [modeField, BitVec.getLsbD_extractLsb', Nat.zero_add, getLsbD_setModeField]
  simp [h]

@[simp] theorem thumbBit_setModeField (f : Word) (b : BitVec 5) : thumbBit (setModeField f b) = thumbBit f :=
  getLsbD_setModeField f b 5

@[simp] theorem modeField_setThumbBit (f : Word) (r : RunState) : modeField (setThumbBit f r) = modeField f := by
  apply BitVec.eq_of_getLsbD_eq
  intro i h
  rw [modeField, modeField, BitVec.getLsbD_extractLsb', BitVec.getLsbD_extractLsb', Nat.zero_add,
    getLsbD_setThumbBit, if_neg (by omega)]

@[simp] theorem thumbBit_setThumbBit (f : Word) (r : RunState) : thumbBit (setThumbBit f r) = r.toBit :=
  getLsbD_setThumbBit f r 5

/-- Truncation keeps the Mode field. -/
@[simp] theorem modeField_trunc (v : Word) : modeField (trunc v) = modeField v := by
  apply BitVec.eq_of_getLsbD_eq
  intro i h
  have hm : flagMask.getLsbD i = true := by interval_cases i <;> rfl
  rw [modeField, modeField, BitVec.getLsbD_extractLsb', BitVec.getLsbD_extractLsb', Nat.zero_add, getLsbD_trunc, hm,
    Bool.and_true]

/-- Truncation keeps the T bit. -/
@[simp] theorem thumbBit_trunc (v : Word) : thumbBit (trunc v) = thumbBit v :=
  (getLsbD_trunc v 5).trans (Bool.and_true _)

@[simp] theorem toBit_ofBit (b : Bool) : (RunState.ofBit b).toBit = b := by cases b <;> rfl

@[simp] theorem ofBit_toBit (r : RunState) : RunState.ofBit r.toBit = r := by cases r <;> rfl

/-- MODE_DEC answers a mode only for that mode's MODE_ENC value (R33). -/
theorem encodeMode_of_decodeMode {e : ModeEnc} {b : BitVec 5} {m : Mode} (h : decodeMode e b = some m) :
    encodeMode e m = b := by
  simpa using List.find?_some h

/-- Every mode is in the list of modes. -/
theorem Mode.mem_all (m : Mode) : m ∈ Mode.all := by cases m <;> decide

/-- A legal MODE_ENC is injective (R11). -/
theorem encodeMode_injective {e : ModeEnc} (h : modeEncLegal e = true) {m n : Mode}
    (hmn : encodeMode e m = encodeMode e n) : m = n :=
  List.inj_on_of_nodup_map (of_decide_eq_true h) (Mode.mem_all m) (Mode.mem_all n) hmn

/-- MODE_DEC undoes a legal MODE_ENC (R33). -/
theorem decodeMode_encodeMode {e : ModeEnc} (h : modeEncLegal e = true) (m : Mode) :
    decodeMode e (encodeMode e m) = some m := by
  cases hd : decodeMode e (encodeMode e m) with
  | none =>
    have := List.find?_eq_none.mp hd m (Mode.mem_all m)
    simp at this
  | some n => rw [encodeMode_injective h (encodeMode_of_decodeMode hd)]

end Sys2Proof.Machine
end

