-- ==== Sys2Proof/Laws/State.lean ====
section
/-! SUPPORT. What each named update of the state does to each field, so that no proof unfolds a record update. -/

namespace Sys2Proof.Machine

/-! ### respond -/

@[simp] theorem State.respond_params (s : State) (r : Response) : (s.respond r).params = s.params := rfl

@[simp] theorem State.respond_base (s : State) (r : Response) : (s.respond r).base = s.base := rfl

@[simp] theorem State.respond_fiq (s : State) (r : Response) : (s.respond r).fiq = s.fiq := rfl

@[simp] theorem State.respond_svc (s : State) (r : Response) : (s.respond r).svc = s.svc := rfl

@[simp] theorem State.respond_abt (s : State) (r : Response) : (s.respond r).abt = s.abt := rfl

@[simp] theorem State.respond_irq (s : State) (r : Response) : (s.respond r).irq = s.irq := rfl

@[simp] theorem State.respond_und (s : State) (r : Response) : (s.respond r).und = s.und := rfl

@[simp] theorem State.respond_pc (s : State) (r : Response) : (s.respond r).pc = s.pc := rfl

@[simp] theorem State.respond_cpsr (s : State) (r : Response) : (s.respond r).cpsr = s.cpsr := rfl

@[simp] theorem State.respond_spsr (s : State) (r : Response) : (s.respond r).spsr = s.spsr := rfl

@[simp] theorem State.respond_spsrValid (s : State) (r : Response) : (s.respond r).spsrValid = s.spsrValid := rfl

@[simp] theorem State.respond_mode (s : State) (r : Response) : (s.respond r).mode = s.mode := rfl

@[simp] theorem State.respond_runState (s : State) (r : Response) : (s.respond r).runState = s.runState := rfl

@[simp] theorem State.respond_resetDone (s : State) (r : Response) : (s.respond r).resetDone = s.resetDone := rfl

@[simp] theorem State.respond_halted (s : State) (r : Response) : (s.respond r).halted = s.halted := rfl

@[simp] theorem State.respond_faultCode (s : State) (r : Response) : (s.respond r).faultCode = s.faultCode := rfl

@[simp] theorem State.respond_responses (s : State) (r : Response) : (s.respond r).responses = r :: s.responses := rfl

@[simp] theorem State.respond_driver (s : State) (r : Response) : (s.respond r).driver = s.driver := rfl

/-! ### raise -/

@[simp] theorem State.raise_params (s : State) (c : FaultCode) : (s.raise c).params = s.params := rfl

@[simp] theorem State.raise_base (s : State) (c : FaultCode) : (s.raise c).base = s.base := rfl

@[simp] theorem State.raise_fiq (s : State) (c : FaultCode) : (s.raise c).fiq = s.fiq := rfl

@[simp] theorem State.raise_svc (s : State) (c : FaultCode) : (s.raise c).svc = s.svc := rfl

@[simp] theorem State.raise_abt (s : State) (c : FaultCode) : (s.raise c).abt = s.abt := rfl

@[simp] theorem State.raise_irq (s : State) (c : FaultCode) : (s.raise c).irq = s.irq := rfl

@[simp] theorem State.raise_und (s : State) (c : FaultCode) : (s.raise c).und = s.und := rfl

@[simp] theorem State.raise_pc (s : State) (c : FaultCode) : (s.raise c).pc = s.pc := rfl

@[simp] theorem State.raise_cpsr (s : State) (c : FaultCode) : (s.raise c).cpsr = s.cpsr := rfl

@[simp] theorem State.raise_spsr (s : State) (c : FaultCode) : (s.raise c).spsr = s.spsr := rfl

@[simp] theorem State.raise_spsrValid (s : State) (c : FaultCode) : (s.raise c).spsrValid = s.spsrValid := rfl

@[simp] theorem State.raise_mode (s : State) (c : FaultCode) : (s.raise c).mode = s.mode := rfl

@[simp] theorem State.raise_runState (s : State) (c : FaultCode) : (s.raise c).runState = s.runState := rfl

@[simp] theorem State.raise_resetDone (s : State) (c : FaultCode) : (s.raise c).resetDone = s.resetDone := rfl

@[simp] theorem State.raise_halted (s : State) (c : FaultCode) : (s.raise c).halted = true := rfl

@[simp] theorem State.raise_faultCode (s : State) (c : FaultCode) : (s.raise c).faultCode = c := rfl

@[simp] theorem State.raise_responses (s : State) (c : FaultCode) : (s.raise c).responses = .fault c :: s.responses := rfl

@[simp] theorem State.raise_driver (s : State) (c : FaultCode) : (s.raise c).driver = s.driver := rfl

/-! ### saveFlags -/

@[simp] theorem State.saveFlags_params (s : State) (m : ExcMode) (f : Word) : (s.saveFlags m f).params = s.params := rfl

@[simp] theorem State.saveFlags_base (s : State) (m : ExcMode) (f : Word) : (s.saveFlags m f).base = s.base := rfl

@[simp] theorem State.saveFlags_fiq (s : State) (m : ExcMode) (f : Word) : (s.saveFlags m f).fiq = s.fiq := rfl

@[simp] theorem State.saveFlags_svc (s : State) (m : ExcMode) (f : Word) : (s.saveFlags m f).svc = s.svc := rfl

@[simp] theorem State.saveFlags_abt (s : State) (m : ExcMode) (f : Word) : (s.saveFlags m f).abt = s.abt := rfl

@[simp] theorem State.saveFlags_irq (s : State) (m : ExcMode) (f : Word) : (s.saveFlags m f).irq = s.irq := rfl

@[simp] theorem State.saveFlags_und (s : State) (m : ExcMode) (f : Word) : (s.saveFlags m f).und = s.und := rfl

@[simp] theorem State.saveFlags_pc (s : State) (m : ExcMode) (f : Word) : (s.saveFlags m f).pc = s.pc := rfl

@[simp] theorem State.saveFlags_cpsr (s : State) (m : ExcMode) (f : Word) : (s.saveFlags m f).cpsr = s.cpsr := rfl

@[simp] theorem State.saveFlags_spsr (s : State) (m : ExcMode) (f : Word) : (s.saveFlags m f).spsr = s.spsr.set m f := rfl

@[simp] theorem State.saveFlags_spsrValid (s : State) (m : ExcMode) (f : Word) : (s.saveFlags m f).spsrValid = s.spsrValid.set m true := rfl

@[simp] theorem State.saveFlags_mode (s : State) (m : ExcMode) (f : Word) : (s.saveFlags m f).mode = s.mode := rfl

@[simp] theorem State.saveFlags_runState (s : State) (m : ExcMode) (f : Word) : (s.saveFlags m f).runState = s.runState := rfl

@[simp] theorem State.saveFlags_resetDone (s : State) (m : ExcMode) (f : Word) : (s.saveFlags m f).resetDone = s.resetDone := rfl

@[simp] theorem State.saveFlags_halted (s : State) (m : ExcMode) (f : Word) : (s.saveFlags m f).halted = s.halted := rfl

@[simp] theorem State.saveFlags_faultCode (s : State) (m : ExcMode) (f : Word) : (s.saveFlags m f).faultCode = s.faultCode := rfl

@[simp] theorem State.saveFlags_responses (s : State) (m : ExcMode) (f : Word) : (s.saveFlags m f).responses = s.responses := rfl

@[simp] theorem State.saveFlags_driver (s : State) (m : ExcMode) (f : Word) : (s.saveFlags m f).driver = s.driver := rfl

/-! ### loadFlags -/

@[simp] theorem State.loadFlags_params (s : State) (f : Word) (m : Mode) : (s.loadFlags f m).params = s.params := rfl

@[simp] theorem State.loadFlags_base (s : State) (f : Word) (m : Mode) : (s.loadFlags f m).base = s.base := rfl

@[simp] theorem State.loadFlags_fiq (s : State) (f : Word) (m : Mode) : (s.loadFlags f m).fiq = s.fiq := rfl

@[simp] theorem State.loadFlags_svc (s : State) (f : Word) (m : Mode) : (s.loadFlags f m).svc = s.svc := rfl

@[simp] theorem State.loadFlags_abt (s : State) (f : Word) (m : Mode) : (s.loadFlags f m).abt = s.abt := rfl

@[simp] theorem State.loadFlags_irq (s : State) (f : Word) (m : Mode) : (s.loadFlags f m).irq = s.irq := rfl

@[simp] theorem State.loadFlags_und (s : State) (f : Word) (m : Mode) : (s.loadFlags f m).und = s.und := rfl

@[simp] theorem State.loadFlags_pc (s : State) (f : Word) (m : Mode) : (s.loadFlags f m).pc = s.pc := rfl

@[simp] theorem State.loadFlags_cpsr (s : State) (f : Word) (m : Mode) : (s.loadFlags f m).cpsr = f := rfl

@[simp] theorem State.loadFlags_spsr (s : State) (f : Word) (m : Mode) : (s.loadFlags f m).spsr = s.spsr := rfl

@[simp] theorem State.loadFlags_spsrValid (s : State) (f : Word) (m : Mode) : (s.loadFlags f m).spsrValid = s.spsrValid := rfl

@[simp] theorem State.loadFlags_mode (s : State) (f : Word) (m : Mode) : (s.loadFlags f m).mode = m := rfl

@[simp] theorem State.loadFlags_runState (s : State) (f : Word) (m : Mode) : (s.loadFlags f m).runState = runStateOf f := rfl

@[simp] theorem State.loadFlags_resetDone (s : State) (f : Word) (m : Mode) : (s.loadFlags f m).resetDone = s.resetDone := rfl

@[simp] theorem State.loadFlags_halted (s : State) (f : Word) (m : Mode) : (s.loadFlags f m).halted = s.halted := rfl

@[simp] theorem State.loadFlags_faultCode (s : State) (f : Word) (m : Mode) : (s.loadFlags f m).faultCode = s.faultCode := rfl

@[simp] theorem State.loadFlags_responses (s : State) (f : Word) (m : Mode) : (s.loadFlags f m).responses = s.responses := rfl

@[simp] theorem State.loadFlags_driver (s : State) (f : Word) (m : Mode) : (s.loadFlags f m).driver = s.driver := rfl

/-! ### setRunState -/

@[simp] theorem State.setRunState_params (s : State) (r : RunState) : (s.setRunState r).params = s.params := rfl

@[simp] theorem State.setRunState_base (s : State) (r : RunState) : (s.setRunState r).base = s.base := rfl

@[simp] theorem State.setRunState_fiq (s : State) (r : RunState) : (s.setRunState r).fiq = s.fiq := rfl

@[simp] theorem State.setRunState_svc (s : State) (r : RunState) : (s.setRunState r).svc = s.svc := rfl

@[simp] theorem State.setRunState_abt (s : State) (r : RunState) : (s.setRunState r).abt = s.abt := rfl

@[simp] theorem State.setRunState_irq (s : State) (r : RunState) : (s.setRunState r).irq = s.irq := rfl

@[simp] theorem State.setRunState_und (s : State) (r : RunState) : (s.setRunState r).und = s.und := rfl

@[simp] theorem State.setRunState_pc (s : State) (r : RunState) : (s.setRunState r).pc = s.pc := rfl

@[simp] theorem State.setRunState_cpsr (s : State) (r : RunState) : (s.setRunState r).cpsr = setThumbBit s.cpsr r := rfl

@[simp] theorem State.setRunState_spsr (s : State) (r : RunState) : (s.setRunState r).spsr = s.spsr := rfl

@[simp] theorem State.setRunState_spsrValid (s : State) (r : RunState) : (s.setRunState r).spsrValid = s.spsrValid := rfl

@[simp] theorem State.setRunState_mode (s : State) (r : RunState) : (s.setRunState r).mode = s.mode := rfl

@[simp] theorem State.setRunState_runState (s : State) (r : RunState) : (s.setRunState r).runState = r := rfl

@[simp] theorem State.setRunState_resetDone (s : State) (r : RunState) : (s.setRunState r).resetDone = s.resetDone := rfl

@[simp] theorem State.setRunState_halted (s : State) (r : RunState) : (s.setRunState r).halted = s.halted := rfl

@[simp] theorem State.setRunState_faultCode (s : State) (r : RunState) : (s.setRunState r).faultCode = s.faultCode := rfl

@[simp] theorem State.setRunState_responses (s : State) (r : RunState) : (s.setRunState r).responses = s.responses := rfl

@[simp] theorem State.setRunState_driver (s : State) (r : RunState) : (s.setRunState r).driver = s.driver := rfl

/-! ### returnTo -/

@[simp] theorem State.returnTo_params (s : State) (f : Word) (m : Mode) (v : Word) : (s.returnTo f m v).params = s.params := rfl

@[simp] theorem State.returnTo_base (s : State) (f : Word) (m : Mode) (v : Word) : (s.returnTo f m v).base = s.base := rfl

@[simp] theorem State.returnTo_fiq (s : State) (f : Word) (m : Mode) (v : Word) : (s.returnTo f m v).fiq = s.fiq := rfl

@[simp] theorem State.returnTo_svc (s : State) (f : Word) (m : Mode) (v : Word) : (s.returnTo f m v).svc = s.svc := rfl

@[simp] theorem State.returnTo_abt (s : State) (f : Word) (m : Mode) (v : Word) : (s.returnTo f m v).abt = s.abt := rfl

@[simp] theorem State.returnTo_irq (s : State) (f : Word) (m : Mode) (v : Word) : (s.returnTo f m v).irq = s.irq := rfl

@[simp] theorem State.returnTo_und (s : State) (f : Word) (m : Mode) (v : Word) : (s.returnTo f m v).und = s.und := rfl

@[simp] theorem State.returnTo_pc (s : State) (f : Word) (m : Mode) (v : Word) : (s.returnTo f m v).pc = v := rfl

@[simp] theorem State.returnTo_cpsr (s : State) (f : Word) (m : Mode) (v : Word) : (s.returnTo f m v).cpsr = f := rfl

@[simp] theorem State.returnTo_spsr (s : State) (f : Word) (m : Mode) (v : Word) : (s.returnTo f m v).spsr = s.spsr := rfl

@[simp] theorem State.returnTo_spsrValid (s : State) (f : Word) (m : Mode) (v : Word) : (s.returnTo f m v).spsrValid = s.spsrValid := rfl

@[simp] theorem State.returnTo_mode (s : State) (f : Word) (m : Mode) (v : Word) : (s.returnTo f m v).mode = m := rfl

@[simp] theorem State.returnTo_runState (s : State) (f : Word) (m : Mode) (v : Word) : (s.returnTo f m v).runState = runStateOf f := rfl

@[simp] theorem State.returnTo_resetDone (s : State) (f : Word) (m : Mode) (v : Word) : (s.returnTo f m v).resetDone = s.resetDone := rfl

@[simp] theorem State.returnTo_halted (s : State) (f : Word) (m : Mode) (v : Word) : (s.returnTo f m v).halted = s.halted := rfl

@[simp] theorem State.returnTo_faultCode (s : State) (f : Word) (m : Mode) (v : Word) : (s.returnTo f m v).faultCode = s.faultCode := rfl

@[simp] theorem State.returnTo_responses (s : State) (f : Word) (m : Mode) (v : Word) : (s.returnTo f m v).responses = s.responses := rfl

@[simp] theorem State.returnTo_driver (s : State) (f : Word) (m : Mode) (v : Word) : (s.returnTo f m v).driver = s.driver := rfl

/-! ### zeroBanks -/

@[simp] theorem State.zeroBanks_params (s : State) : (s.zeroBanks).params = s.params := rfl

@[simp] theorem State.zeroBanks_base (s : State) : (s.zeroBanks).base = Vector.replicate 15 0 := rfl

@[simp] theorem State.zeroBanks_fiq (s : State) : (s.zeroBanks).fiq = Vector.replicate 7 0 := rfl

@[simp] theorem State.zeroBanks_svc (s : State) : (s.zeroBanks).svc = Vector.replicate 2 0 := rfl

@[simp] theorem State.zeroBanks_abt (s : State) : (s.zeroBanks).abt = Vector.replicate 2 0 := rfl

@[simp] theorem State.zeroBanks_irq (s : State) : (s.zeroBanks).irq = Vector.replicate 2 0 := rfl

@[simp] theorem State.zeroBanks_und (s : State) : (s.zeroBanks).und = Vector.replicate 2 0 := rfl

@[simp] theorem State.zeroBanks_pc (s : State) : (s.zeroBanks).pc = s.pc := rfl

@[simp] theorem State.zeroBanks_cpsr (s : State) : (s.zeroBanks).cpsr = s.cpsr := rfl

@[simp] theorem State.zeroBanks_spsr (s : State) : (s.zeroBanks).spsr = s.spsr := rfl

@[simp] theorem State.zeroBanks_spsrValid (s : State) : (s.zeroBanks).spsrValid = s.spsrValid := rfl

@[simp] theorem State.zeroBanks_mode (s : State) : (s.zeroBanks).mode = s.mode := rfl

@[simp] theorem State.zeroBanks_runState (s : State) : (s.zeroBanks).runState = s.runState := rfl

@[simp] theorem State.zeroBanks_resetDone (s : State) : (s.zeroBanks).resetDone = s.resetDone := rfl

@[simp] theorem State.zeroBanks_halted (s : State) : (s.zeroBanks).halted = s.halted := rfl

@[simp] theorem State.zeroBanks_faultCode (s : State) : (s.zeroBanks).faultCode = s.faultCode := rfl

@[simp] theorem State.zeroBanks_responses (s : State) : (s.zeroBanks).responses = s.responses := rfl

@[simp] theorem State.zeroBanks_driver (s : State) : (s.zeroBanks).driver = s.driver := rfl

/-! ### present -/

@[simp] theorem State.present_params (s : State) (t : Transaction) : (s.present t).params = s.params := rfl

@[simp] theorem State.present_base (s : State) (t : Transaction) : (s.present t).base = s.base := rfl

@[simp] theorem State.present_fiq (s : State) (t : Transaction) : (s.present t).fiq = s.fiq := rfl

@[simp] theorem State.present_svc (s : State) (t : Transaction) : (s.present t).svc = s.svc := rfl

@[simp] theorem State.present_abt (s : State) (t : Transaction) : (s.present t).abt = s.abt := rfl

@[simp] theorem State.present_irq (s : State) (t : Transaction) : (s.present t).irq = s.irq := rfl

@[simp] theorem State.present_und (s : State) (t : Transaction) : (s.present t).und = s.und := rfl

@[simp] theorem State.present_pc (s : State) (t : Transaction) : (s.present t).pc = s.pc := rfl

@[simp] theorem State.present_cpsr (s : State) (t : Transaction) : (s.present t).cpsr = s.cpsr := rfl

@[simp] theorem State.present_spsr (s : State) (t : Transaction) : (s.present t).spsr = s.spsr := rfl

@[simp] theorem State.present_spsrValid (s : State) (t : Transaction) : (s.present t).spsrValid = s.spsrValid := rfl

@[simp] theorem State.present_mode (s : State) (t : Transaction) : (s.present t).mode = s.mode := rfl

@[simp] theorem State.present_runState (s : State) (t : Transaction) : (s.present t).runState = s.runState := rfl

@[simp] theorem State.present_resetDone (s : State) (t : Transaction) : (s.present t).resetDone = s.resetDone := rfl

@[simp] theorem State.present_halted (s : State) (t : Transaction) : (s.present t).halted = s.halted := rfl

@[simp] theorem State.present_faultCode (s : State) (t : Transaction) : (s.present t).faultCode = s.faultCode := rfl

@[simp] theorem State.present_responses (s : State) (t : Transaction) : (s.present t).responses = s.responses := rfl

@[simp] theorem State.present_driver (s : State) (t : Transaction) : (s.present t).driver = t :: s.driver := rfl

/-! ### setSlot -/

@[simp] theorem State.setSlot_params (s : State) (sl : Slot) (v : Word) : (s.setSlot sl v).params = s.params := by
  cases sl <;> rfl

@[simp] theorem State.setSlot_pc (s : State) (sl : Slot) (v : Word) : (s.setSlot sl v).pc = s.pc := by
  cases sl <;> rfl

@[simp] theorem State.setSlot_cpsr (s : State) (sl : Slot) (v : Word) : (s.setSlot sl v).cpsr = s.cpsr := by
  cases sl <;> rfl

@[simp] theorem State.setSlot_spsr (s : State) (sl : Slot) (v : Word) : (s.setSlot sl v).spsr = s.spsr := by
  cases sl <;> rfl

@[simp] theorem State.setSlot_spsrValid (s : State) (sl : Slot) (v : Word) : (s.setSlot sl v).spsrValid = s.spsrValid := by
  cases sl <;> rfl

@[simp] theorem State.setSlot_mode (s : State) (sl : Slot) (v : Word) : (s.setSlot sl v).mode = s.mode := by
  cases sl <;> rfl

@[simp] theorem State.setSlot_runState (s : State) (sl : Slot) (v : Word) : (s.setSlot sl v).runState = s.runState := by
  cases sl <;> rfl

@[simp] theorem State.setSlot_resetDone (s : State) (sl : Slot) (v : Word) : (s.setSlot sl v).resetDone = s.resetDone := by
  cases sl <;> rfl

@[simp] theorem State.setSlot_halted (s : State) (sl : Slot) (v : Word) : (s.setSlot sl v).halted = s.halted := by
  cases sl <;> rfl

@[simp] theorem State.setSlot_faultCode (s : State) (sl : Slot) (v : Word) : (s.setSlot sl v).faultCode = s.faultCode := by
  cases sl <;> rfl

@[simp] theorem State.setSlot_responses (s : State) (sl : Slot) (v : Word) : (s.setSlot sl v).responses = s.responses := by
  cases sl <;> rfl

@[simp] theorem State.setSlot_driver (s : State) (sl : Slot) (v : Word) : (s.setSlot sl v).driver = s.driver := by
  cases sl <;> rfl

/-! ### saveOnEntry and enterException -/

@[simp] theorem State.saveOnEntry_params (s : State) (k : Kind) : (s.saveOnEntry k).params = s.params := by
  unfold State.saveOnEntry; split <;> rfl

@[simp] theorem State.saveOnEntry_base (s : State) (k : Kind) : (s.saveOnEntry k).base = s.base := by
  unfold State.saveOnEntry; split <;> rfl

@[simp] theorem State.saveOnEntry_fiq (s : State) (k : Kind) : (s.saveOnEntry k).fiq = s.fiq := by
  unfold State.saveOnEntry; split <;> rfl

@[simp] theorem State.saveOnEntry_svc (s : State) (k : Kind) : (s.saveOnEntry k).svc = s.svc := by
  unfold State.saveOnEntry; split <;> rfl

@[simp] theorem State.saveOnEntry_abt (s : State) (k : Kind) : (s.saveOnEntry k).abt = s.abt := by
  unfold State.saveOnEntry; split <;> rfl

@[simp] theorem State.saveOnEntry_irq (s : State) (k : Kind) : (s.saveOnEntry k).irq = s.irq := by
  unfold State.saveOnEntry; split <;> rfl

@[simp] theorem State.saveOnEntry_und (s : State) (k : Kind) : (s.saveOnEntry k).und = s.und := by
  unfold State.saveOnEntry; split <;> rfl

@[simp] theorem State.saveOnEntry_pc (s : State) (k : Kind) : (s.saveOnEntry k).pc = s.pc := by
  unfold State.saveOnEntry; split <;> rfl

@[simp] theorem State.saveOnEntry_cpsr (s : State) (k : Kind) : (s.saveOnEntry k).cpsr = s.cpsr := by
  unfold State.saveOnEntry; split <;> rfl

@[simp] theorem State.saveOnEntry_mode (s : State) (k : Kind) : (s.saveOnEntry k).mode = s.mode := by
  unfold State.saveOnEntry; split <;> rfl

@[simp] theorem State.saveOnEntry_runState (s : State) (k : Kind) : (s.saveOnEntry k).runState = s.runState := by
  unfold State.saveOnEntry; split <;> rfl

@[simp] theorem State.saveOnEntry_resetDone (s : State) (k : Kind) : (s.saveOnEntry k).resetDone = s.resetDone := by
  unfold State.saveOnEntry; split <;> rfl

@[simp] theorem State.saveOnEntry_halted (s : State) (k : Kind) : (s.saveOnEntry k).halted = s.halted := by
  unfold State.saveOnEntry; split <;> rfl

@[simp] theorem State.saveOnEntry_faultCode (s : State) (k : Kind) : (s.saveOnEntry k).faultCode = s.faultCode := by
  unfold State.saveOnEntry; split <;> rfl

@[simp] theorem State.saveOnEntry_responses (s : State) (k : Kind) : (s.saveOnEntry k).responses = s.responses := by
  unfold State.saveOnEntry; split <;> rfl

@[simp] theorem State.saveOnEntry_driver (s : State) (k : Kind) : (s.saveOnEntry k).driver = s.driver := by
  unfold State.saveOnEntry; split <;> rfl

@[simp] theorem State.enterException_params (s : State) (k : Kind) :
    (s.enterException k).params = s.params := s.saveOnEntry_params k

@[simp] theorem State.enterException_base (s : State) (k : Kind) :
    (s.enterException k).base = s.base := s.saveOnEntry_base k

@[simp] theorem State.enterException_fiq (s : State) (k : Kind) :
    (s.enterException k).fiq = s.fiq := s.saveOnEntry_fiq k

@[simp] theorem State.enterException_svc (s : State) (k : Kind) :
    (s.enterException k).svc = s.svc := s.saveOnEntry_svc k

@[simp] theorem State.enterException_abt (s : State) (k : Kind) :
    (s.enterException k).abt = s.abt := s.saveOnEntry_abt k

@[simp] theorem State.enterException_irq (s : State) (k : Kind) :
    (s.enterException k).irq = s.irq := s.saveOnEntry_irq k

@[simp] theorem State.enterException_und (s : State) (k : Kind) :
    (s.enterException k).und = s.und := s.saveOnEntry_und k

@[simp] theorem State.enterException_pc (s : State) (k : Kind) :
    (s.enterException k).pc = s.params.vectorBase + (descriptor k).offset := rfl

@[simp] theorem State.enterException_cpsr (s : State) (k : Kind) :
    (s.enterException k).cpsr = entryFlags s.params (descriptor k) s.cpsr := rfl

@[simp] theorem State.enterException_spsr (s : State) (k : Kind) :
    (s.enterException k).spsr = (s.saveOnEntry k).spsr := rfl

@[simp] theorem State.enterException_spsrValid (s : State) (k : Kind) :
    (s.enterException k).spsrValid = (s.saveOnEntry k).spsrValid := rfl

@[simp] theorem State.enterException_mode (s : State) (k : Kind) :
    (s.enterException k).mode = (descriptor k).mode.toMode := rfl

@[simp] theorem State.enterException_runState (s : State) (k : Kind) :
    (s.enterException k).runState = .arm := rfl

@[simp] theorem State.enterException_resetDone (s : State) (k : Kind) :
    (s.enterException k).resetDone = s.resetDone := s.saveOnEntry_resetDone k

@[simp] theorem State.enterException_halted (s : State) (k : Kind) :
    (s.enterException k).halted = s.halted := s.saveOnEntry_halted k

@[simp] theorem State.enterException_faultCode (s : State) (k : Kind) :
    (s.enterException k).faultCode = s.faultCode := s.saveOnEntry_faultCode k

@[simp] theorem State.enterException_responses (s : State) (k : Kind) :
    (s.enterException k).responses = s.responses := s.saveOnEntry_responses k

@[simp] theorem State.enterException_driver (s : State) (k : Kind) :
    (s.enterException k).driver = s.driver := s.saveOnEntry_driver k

/-! ### resetBlock -/

@[simp] theorem State.resetBlock_params (s : State) : s.resetBlock.params = s.params := rfl

@[simp] theorem State.resetBlock_base (s : State) : s.resetBlock.base = Vector.replicate 15 0 := rfl

@[simp] theorem State.resetBlock_fiq (s : State) : s.resetBlock.fiq = Vector.replicate 7 0 := rfl

@[simp] theorem State.resetBlock_svc (s : State) : s.resetBlock.svc = Vector.replicate 2 0 := rfl

@[simp] theorem State.resetBlock_abt (s : State) : s.resetBlock.abt = Vector.replicate 2 0 := rfl

@[simp] theorem State.resetBlock_irq (s : State) : s.resetBlock.irq = Vector.replicate 2 0 := rfl

@[simp] theorem State.resetBlock_und (s : State) : s.resetBlock.und = Vector.replicate 2 0 := rfl

@[simp] theorem State.resetBlock_pc (s : State) : s.resetBlock.pc = s.params.vectorBase + 0x00 := rfl

@[simp] theorem State.resetBlock_cpsr (s : State) : s.resetBlock.cpsr = entryFlags s.params (descriptor .reset) 0 := rfl

@[simp] theorem State.resetBlock_spsr (s : State) : s.resetBlock.spsr = s.spsr := rfl

@[simp] theorem State.resetBlock_spsrValid (s : State) : s.resetBlock.spsrValid = ⟨false, false, false, false, false⟩ := rfl

@[simp] theorem State.resetBlock_mode (s : State) : s.resetBlock.mode = .supervisor := rfl

@[simp] theorem State.resetBlock_runState (s : State) : s.resetBlock.runState = .arm := rfl

@[simp] theorem State.resetBlock_resetDone (s : State) : s.resetBlock.resetDone = true := rfl

@[simp] theorem State.resetBlock_halted (s : State) : s.resetBlock.halted = s.halted := rfl

@[simp] theorem State.resetBlock_faultCode (s : State) : s.resetBlock.faultCode = s.faultCode := rfl

@[simp] theorem State.resetBlock_responses (s : State) : s.resetBlock.responses = s.responses := rfl

@[simp] theorem State.resetBlock_driver (s : State) : s.resetBlock.driver = s.driver := rfl

/-! ### A halted, or a not yet reset, block -/

/-- What a fault leaves: the state before, halted with the code and the response (R270). -/
theorem State.raise_eq (s : State) (c : FaultCode) :
    s.raise c = { s with halted := true, faultCode := c, responses := .fault c :: s.responses } := rfl

/-- Every response answered so far stays in the history. -/
theorem State.respond_eq (s : State) (r : Response) : s.respond r = { s with responses := r :: s.responses } := rfl

end Sys2Proof.Machine
end

