-- ==== Sys2Proof/Laws/Slots.lean ====
section
/-! SUPPORT. Register-file slots and saved flag sets: a read after a write of the same place gives the value written,
and a write leaves every other place alone. -/

namespace Sys2Proof.Machine

@[simp] theorem State.slot_setSlot_same (s : State) (sl : Slot) (v : Word) : (s.setSlot sl v).slot sl = v := by
  cases sl <;> simp [State.slot, State.setSlot]

theorem State.slot_setSlot_ne (s : State) {a b : Slot} (v : Word) (h : a ≠ b) :
    (s.setSlot a v).slot b = s.slot b := by
  cases a <;> cases b <;> simp_all [State.slot, State.setSlot, Fin.ext_iff]

theorem State.slot_setSlot (s : State) (a b : Slot) (v : Word) :
    (s.setSlot a v).slot b = if a = b then v else s.slot b := by
  split
  · subst b; exact s.slot_setSlot_same a v
  · exact s.slot_setSlot_ne v ‹_›

/-- Every slot reads 0 once the banks are zeroed. -/
@[simp] theorem State.slot_zeroBanks (s : State) (sl : Slot) : s.zeroBanks.slot sl = 0 := by
  cases sl <;> simp [State.slot, State.zeroBanks]

/-- A slot depends on the banks alone. -/
theorem State.slot_congr {s t : State} (hb : t.base = s.base) (hf : t.fiq = s.fiq) (hs : t.svc = s.svc)
    (ha : t.abt = s.abt) (hi : t.irq = s.irq) (hu : t.und = s.und) (sl : Slot) : t.slot sl = s.slot sl := by
  cases sl <;> simp [State.slot, *]

@[simp] theorem State.slot_respond (s : State) (r : Response) (sl : Slot) : (s.respond r).slot sl = s.slot sl :=
  State.slot_congr rfl rfl rfl rfl rfl rfl sl

@[simp] theorem State.slot_raise (s : State) (c : FaultCode) (sl : Slot) : (s.raise c).slot sl = s.slot sl :=
  State.slot_congr rfl rfl rfl rfl rfl rfl sl

@[simp] theorem State.slot_enterException (s : State) (k : Kind) (sl : Slot) :
    (s.enterException k).slot sl = s.slot sl :=
  State.slot_congr (s.saveOnEntry_base k) (s.saveOnEntry_fiq k) (s.saveOnEntry_svc k) (s.saveOnEntry_abt k)
    (s.saveOnEntry_irq k) (s.saveOnEntry_und k) sl

@[simp] theorem State.resolve_respond (s : State) (r : Response) (m : Mode) (i : BitVec 4) :
    (s.respond r).resolve m i = s.resolve m i := rfl

@[simp] theorem State.resolve_setSlot (s : State) (sl : Slot) (v : Word) (m : Mode) (i : BitVec 4) :
    (s.setSlot sl v).resolve m i = s.resolve m i := by
  simp [State.resolve]

@[simp] theorem PerExc.get_set_same {α : Type} (x : PerExc α) (m : ExcMode) (a : α) : (x.set m a).get m = a := by
  cases m <;> rfl

theorem PerExc.get_set_ne {α : Type} (x : PerExc α) {m n : ExcMode} (a : α) (h : m ≠ n) :
    (x.set m a).get n = x.get n := by
  cases m <;> cases n <;> first | rfl | exact absurd rfl h

theorem PerExc.get_set {α : Type} (x : PerExc α) (m n : ExcMode) (a : α) :
    (x.set m a).get n = if m = n then a else x.get n := by
  split
  · subst n; exact x.get_set_same m a
  · exact x.get_set_ne a ‹_›

end Sys2Proof.Machine
end

