-- ==== Sys2Proof/Laws/Ops.lean ====
section
/-! SUPPORT. What the shared checks and operations can answer, each said once. -/

namespace Sys2Proof.Machine

/-- A running block performs the command's own part. -/
theorem perform_running {s : State} {body : Result} (hh : s.halted = false) (hr : s.resetDone = true) :
    perform s body = body := by simp [perform, hh, hr]

/-- Everything the common checks can answer (R273). -/
theorem perform_cases (s : State) (body : Result) :
    (s.halted = true ∧ perform s body = stuck s) ∨
    (s.halted = false ∧ s.resetDone = false ∧ perform s body = fail s .notReset) ∨
    (s.halted = false ∧ s.resetDone = true ∧ perform s body = body) := by
  cases hh : s.halted <;> cases hr : s.resetDone <;> simp [perform, hh, hr]

/-- A running block performs a command for the mode its selector names (R120). -/
theorem performAs_running {sel : ModeSel} {s : State} {body : Mode → Result} {m : Mode}
    (hm : sel.pick s.mode = some m) (hh : s.halted = false) (hr : s.resetDone = true) :
    performAs sel s body = body m := by simp [performAs, hm, perform_running hh hr]

/-- Everything the common checks can answer for a command with a selector (R273, R88). -/
theorem performAs_cases (sel : ModeSel) (s : State) (body : Mode → Result) :
    (s.halted = true ∧ performAs sel s body = stuck s) ∨
    (s.halted = false ∧ sel = .reserved ∧ performAs sel s body = fail s .illegalCommand) ∨
    (s.halted = false ∧ sel ≠ .reserved ∧ s.resetDone = false ∧ performAs sel s body = fail s .notReset) ∨
    (∃ m, s.halted = false ∧ sel.pick s.mode = some m ∧ s.resetDone = true ∧ performAs sel s body = body m) := by
  cases hh : s.halted <;> cases hr : s.resetDone <;> cases sel <;>
    simp [performAs, perform, ModeSel.pick, hh, hr]

/-- RESET's checks: only a halted block refuses it. -/
theorem performReset_running {s : State} {body : Result} (hh : s.halted = false) : performReset s body = body := by
  simp [performReset, hh]

/-- Only the reserved selector names no mode (R85). -/
theorem pick_eq_none {sel : ModeSel} {cur : Mode} : sel.pick cur = none ↔ sel = .reserved := by
  cases sel <;> simp [ModeSel.pick]

/-- What entry saves (R182 step 1): the old flags in the entry mode's saved flag set, for every kind but Reset. -/
theorem saveOnEntry_of_ne {s : State} {k : Kind} (h : k ≠ .reset) :
    s.saveOnEntry k = s.saveFlags (descriptor k).mode s.cpsr := by simp [State.saveOnEntry, h]

/-- Reset saves nothing (R184). -/
@[simp] theorem saveOnEntry_reset (s : State) : s.saveOnEntry .reset = s := rfl

/-- An exception-capable mode is the mode it stands for. -/
@[simp] theorem exc_toMode (m : ExcMode) : m.toMode.exc? = some m := by cases m <;> rfl

/-- Only System has no saved flag set (R38). -/
theorem exc_eq_none {m : Mode} : m.exc? = none ↔ m = .system := by cases m <;> simp [Mode.exc?]

end Sys2Proof.Machine
end

