-- ==== Sys2Proof/Laws/PerInstr.lean ====
section
/-! SUPPORT. One statement about every command as syntax: its command word has the fixed bits of its own row of the
opcode table. -/

namespace Sys2Proof.Laws.TableRow

/-- Some row of the opcode table bears the command's mnemonic and matches the command's word. -/
def Statement (i : Instr) : Prop := ∃ r ∈ opcodeTable, r.mnemonic = i.mnemonic ∧ r.matches i.word = true

/-- A selector and an index fall outside the fixed bits of RF_READ and RF_WRITE. -/
theorem rf_word_fixed (b : BitVec 3) (idx : BitVec 4) :
    assemble 0x1 b idx 0 &&& 0xFFFFF08F = 0x1 ∧ assemble 0x2 b idx 0 &&& 0xFFFFF08F = 0x2 := by
  revert b idx; decide

/-- A selector falls outside the fixed bits of SPSR_READ and SPSR_WRITE. -/
theorem spsr_word_fixed (b : BitVec 3) :
    assemble 0x7 b 0 0 &&& 0xFFFFFF8F = 0x7 ∧ assemble 0x8 b 0 0 &&& 0xFFFFFF8F = 0x8 := by
  revert b; decide

/-- A pending vector falls outside the fixed bits of DISPATCH. -/
theorem dispatch_word_fixed (p : BitVec 8) : assemble 0xC 0 0 p &&& 0xFF00FFFF = 0xC := by
  revert p; decide

/-- A command whose word is known matches a row that the word matches. -/
theorem matches_of_word {r : OpcodeRow} {w : Word} {i : Instr} (h : r.matches w = true) (hi : i.word = w) :
    r.matches i.word = true := hi ▸ h

theorem rfRead (sel : ModeSel) (idx : BitVec 4) : Statement (.rfRead sel idx) :=
  ⟨⟨"RF_READ", 0x00000001, 0xFFFFF08F⟩, by decide, rfl, beq_iff_eq.mpr (rf_word_fixed sel.toBits idx).1⟩

theorem rfWrite (sel : ModeSel) (idx : BitVec 4) (v : Word) : Statement (.rfWrite sel idx v) :=
  ⟨⟨"RF_WRITE", 0x00000002, 0xFFFFF08F⟩, by decide, rfl, beq_iff_eq.mpr (rf_word_fixed sel.toBits idx).2⟩

theorem pcRead : Statement .pcRead := by unfold Statement; decide

theorem pcWrite (v : Word) : Statement (.pcWrite v) :=
  ⟨⟨"PC_WRITE", 0x00000004, 0xFFFFFFFF⟩, by decide, rfl, matches_of_word (by decide) (w := assemble 0x4 0 0 0) rfl⟩

theorem cpsrRead : Statement .cpsrRead := by unfold Statement; decide

theorem cpsrWrite (v : Word) : Statement (.cpsrWrite v) :=
  ⟨⟨"CPSR_WRITE", 0x00000006, 0xFFFFFFFF⟩, by decide, rfl, matches_of_word (by decide) (w := assemble 0x6 0 0 0) rfl⟩

theorem spsrRead (sel : ModeSel) : Statement (.spsrRead sel) :=
  ⟨⟨"SPSR_READ", 0x00000007, 0xFFFFFF8F⟩, by decide, rfl, beq_iff_eq.mpr (spsr_word_fixed sel.toBits).1⟩

theorem spsrWrite (sel : ModeSel) (v : Word) : Statement (.spsrWrite sel v) :=
  ⟨⟨"SPSR_WRITE", 0x00000008, 0xFFFFFF8F⟩, by decide, rfl, beq_iff_eq.mpr (spsr_word_fixed sel.toBits).2⟩

theorem modeRead : Statement .modeRead := by unfold Statement; decide

theorem runstateRead : Statement .runstateRead := by unfold Statement; decide

theorem runstateWrite (r : RunState) : Statement (.runstateWrite r) :=
  ⟨⟨"RUNSTATE_WRITE", 0x0000000B, 0xFFFFFFFF⟩, by decide, rfl, matches_of_word (by decide) (w := assemble 0xB 0 0 0) rfl⟩

theorem dispatch (p : BitVec 8) : Statement (.dispatch p) :=
  ⟨⟨"DISPATCH", 0x0000000C, 0xFF00FFFF⟩, by decide, rfl, beq_iff_eq.mpr (dispatch_word_fixed p)⟩

theorem excReturn (v : Word) : Statement (.excReturn v) :=
  ⟨⟨"EXC_RETURN", 0x0000000D, 0xFFFFFFFF⟩, by decide, rfl, matches_of_word (by decide) (w := assemble 0xD 0 0 0) rfl⟩

theorem reset : Statement .reset := by unfold Statement; decide

end Sys2Proof.Laws.TableRow
end

