-- ==== Sys2Proof/Tests/Slice0.lean ====
section
/-! SUPPORT. Tests on single steps, their expected results taken from spec/95_test_vectors.md or worked out by hand from
the rules, and for every statement with hypotheses a concrete state and operands that meet them together. -/

namespace Sys2Proof.Tests

open Sys2Proof Sys2Proof.Machine

/-! ### Helpers -/

/-- The next state, or none where the machine stops. -/
def nextOf (r : Result) : Option State :=
  match r with
  | .next s => some s
  | .fault _ => none
  | .refused _ => none

/-- The newest response of a next state. -/
def newest (r : Result) : Option Response := (nextOf r).bind fun s => s.responses.head?

/-- The fault record of a next state. -/
def record (r : Result) : Option (Bool × FaultCode) := (nextOf r).map fun s => (s.halted, s.faultCode)

/-- After RESET and CPSR_WRITE 0x0000_001F: System, I = F = 0. -/
def sys : State := { State.reset with mode := .system, cpsr := 0x0000001F }

/-- The start of every row of vector table 2.8: System, C = V = 1, Thumb, pc 0x1000. -/
def busy : State :=
  { State.reset with mode := .system, cpsr := 0x3000003F, runState := .thumb, pc := 0x00001000 }

/-- After RESET with BASE_BANK_SLOTS = 14. -/
def small : State := State.resetWith { defaultParams with baseBankSlots := .fourteen }

/-- A block no RESET has reached, its other elements as after RESET. -/
def fresh : State := { State.reset with resetDone := false }

/-- A halted block. -/
def dead : State := { State.reset with halted := true, faultCode := .notReset }

/-- After RESET with one saved flag set written. -/
def saved (m : ExcMode) (f : Word) : State := State.reset.saveFlags m f

/-- After RESET with one transaction to present. -/
def offered (cmd wdata : Word) : State := State.reset.present ⟨cmd, wdata⟩

/-! ### Well-formedness: the one check refuses the reserved selector in each command that has one -/

theorem test_reserved_selector_ill_formed :
    (Instr.rfRead .reserved 0).wellFormed = false ∧ (Instr.rfWrite .reserved 0 0).wellFormed = false ∧
      (Instr.spsrRead .reserved).wellFormed = false ∧ (Instr.spsrWrite .reserved 0).wellFormed = false := by decide

theorem test_other_selectors_well_formed :
    (Instr.rfRead .current 15).wellFormed = true ∧ (Instr.spsrRead (.mode .system)).wellFormed = true := by decide

/-! ### Decoding: words written out bit by bit from R82 and R84, as `pend` (8 bits), `0000`, `idx`, `0`, `msel`, `op` -/

theorem test_decode_rf_read : decodeTableWord 32 0b00000000000000000000110101110001 = some (.rfRead .current 13) := by
  decide

theorem test_decode_rf_write :
    decode ⟨0b00000000000000000000111000100010, 0x00000077⟩ = .ok (.rfWrite (.mode .supervisor) 14 0x77) := by rfl

theorem test_decode_pc_read : decodeTableWord 32 0b00000000000000000000000000000011 = some .pcRead := by decide

theorem test_decode_pc_write :
    decode ⟨0b00000000000000000000000000000100, 0x08000001⟩ = .ok (.pcWrite 0x08000001) := by rfl

theorem test_decode_cpsr_read : decodeTableWord 32 0b00000000000000000000000000000101 = some .cpsrRead := by decide

theorem test_decode_cpsr_write :
    decode ⟨0b00000000000000000000000000000110, 0xFFFFFFFF⟩ = .ok (.cpsrWrite 0xFFFFFFFF) := by rfl

theorem test_decode_spsr_read :
    decodeTableWord 32 0b00000000000000000000000000110111 = some (.spsrRead (.mode .abort)) := by decide

theorem test_decode_spsr_write :
    decode ⟨0b00000000000000000000000001001000, 0x0000001F⟩ = .ok (.spsrWrite (.mode .irq) 0x1F) := by rfl

theorem test_decode_mode_read : decodeTableWord 32 0b00000000000000000000000000001001 = some .modeRead := by decide

theorem test_decode_runstate_read : decodeTableWord 32 0b00000000000000000000000000001010 = some .runstateRead := by
  decide

/-- Only bit 0 of the write data is read (R90). -/
theorem test_decode_runstate_write :
    decode ⟨0b00000000000000000000000000001011, 0xFFFFFFFE⟩ = .ok (.runstateWrite .arm) := by rfl

theorem test_decode_dispatch : decodeTableWord 32 0b00000000001100000000000000001100 = some (.dispatch 0x30) := by
  decide

theorem test_decode_exc_return :
    decode ⟨0b00000000000000000000000000001101, 0x00000104⟩ = .ok (.excReturn 0x104) := by rfl

theorem test_decode_reset : decodeTableWord 32 0b00000000000000000000000000001110 = some .reset := by decide

/-- Vector table 2.1, the words that fault IllegalCommand. -/
theorem test_illegal_words :
    ([0x00000000, 0x0000000F, 0x0000001E, 0x00000D61, 0x00000D81, 0x00001D01, 0x00010D01, 0x01000005, 0x00000107,
      0x00000067].map (decodeTableWord 32)) = List.replicate 10 none := by decide

/-! ### Register-file and pc commands -/

/-- W1: step 2, and step 4 that does not see it. -/
theorem test_rf_write_irq_r13 :
    (nextOf (exec (.rfWrite (.mode .irq) 13 0xAAAA0013) State.reset)).map (fun s => (s.slot (.irq 0), s.slot (.svc 0))) =
      some (0xAAAA0013, 0) := by decide

/-- Vector table 2.2: RF_WRITE fiq, r15 faults IndexOutOfRange. -/
theorem test_rf_write_r15 :
    record (exec (.rfWrite (.mode .fiq) 15 1) State.reset) = some (true, .indexOutOfRange) := by decide

/-- P1 step 9: System sees base r8 while Fiq's r8 holds another value. -/
theorem test_rf_read_sys_r8 :
    newest (exec (.rfRead (.mode .system) 8) ((State.reset.setSlot (.base 8) 0x88).setSlot (.fiq 0) 0xF188)) =
      some (.okData 0x88) := by decide

/-- Vector table 2.2: System r14 with BASE_BANK_SLOTS = 14. -/
theorem test_rf_read_sys_r14_small :
    newest (exec (.rfRead (.mode .system) 14) small) = some (.fault .indexOutOfRange) ∧
      newest (exec (.rfRead (.mode .supervisor) 14) small) = some (.okData 0) := by decide

theorem test_pc_read : newest (exec .pcRead busy) = some (.okData 0x1000) := by decide

/-- Vector table 2.3: no alignment check. -/
theorem test_pc_write_odd : (nextOf (exec (.pcWrite 0x08000001) State.reset)).map (·.pc) = some 0x08000001 := by decide

/-! ### Status-register, mode and run-state commands -/

theorem test_cpsr_read_after_reset : newest (exec .cpsrRead State.reset) = some (.okData 0x000000D3) := by decide

/-- Vector table 2.4, first row. -/
theorem test_cpsr_write_all_ones :
    (nextOf (exec (.cpsrWrite 0xFFFFFFFF) State.reset)).map (fun s => (s.cpsr, s.mode, s.runState)) =
      some (0xF90003FF, .system, .thumb) := by decide

/-- Vector table 2.4: the ARM User value. -/
theorem test_cpsr_write_user :
    (nextOf (exec (.cpsrWrite 0x00000010) State.reset)).map (fun s => (s.cpsr, s.mode, s.faultCode)) =
      some (0x000000D3, .supervisor, .invalidMode) := by decide

/-- Vector table 2.5, first two rows. -/
theorem test_spsr_read_faults :
    newest (exec (.spsrRead (.mode .supervisor)) State.reset) = some (.fault .unwrittenRead) ∧
      newest (exec (.spsrRead .current) sys) = some (.fault .invalidMode) := by decide

theorem test_spsr_read_written :
    newest (exec (.spsrRead (.mode .undefined)) (saved .undefined 0)) = some (.okData 0) := by decide

/-- Vector table 2.5: `trunc(0x1234_5678)`. -/
theorem test_spsr_write_truncates :
    (nextOf (exec (.spsrWrite .current 0x12345678) State.reset)).map
      (fun s => (s.spsr.supervisor, s.spsrValid.supervisor, s.spsrValid.irq)) = some (0x10000278, true, false) := by
  decide

theorem test_spsr_write_system : newest (exec (.spsrWrite (.mode .system) 0) State.reset) = some (.fault .invalidMode) := by
  decide

/-- Vector table 2.6. -/
theorem test_mode_read :
    newest (exec .modeRead State.reset) = some (.okData 2) ∧
      newest (exec .modeRead { State.reset with mode := .undefined, cpsr := 0x1B }) = some (.okData 5) := by decide

theorem test_runstate_read :
    newest (exec .runstateRead busy) = some (.okData 1) ∧ newest (exec .runstateRead State.reset) = some (.okData 0) := by
  decide

/-- Vector table 2.6: T set. -/
theorem test_runstate_write_thumb :
    (nextOf (exec (.runstateWrite .thumb) State.reset)).map (fun s => (s.cpsr, s.runState)) =
      some (0x000000F3, .thumb) := by decide

theorem test_runstate_write_arm :
    (nextOf (exec (.runstateWrite .arm) busy)).map (fun s => (s.cpsr, s.runState)) = some (0x3000001F, .arm) := by decide

/-! ### Exceptions -/

/-- Vector table 2.8: the CPSR, the saved flags, the pc and the response of UndefinedInstruction. -/
theorem test_dispatch_undefined :
    (nextOf (exec (.dispatch 0x02) busy)).map (fun s => (s.cpsr, s.mode, s.spsr.undefined, s.pc, s.responses)) =
      some (0x3000009B, .undefined, 0x3000003F, 0x00000004, [.okDispatch 0x1000 .undefinedInstruction]) := by decide

/-- Vector table 2.8: FastInterrupt forces both disable bits. -/
theorem test_dispatch_fast :
    (nextOf (exec (.dispatch 0x80) busy)).map (fun s => (s.cpsr, s.mode, s.runState, s.spsr.fiq, s.pc)) =
      some (0x300000D1, .fiq, .arm, 0x3000003F, 0x0000001C) := by decide

/-- Vector table 2.7. -/
theorem test_select :
    [0x01, 0x02, 0x04, 0x08, 0x10, 0x20, 0x40, 0x80, 0x03, 0x30, 0x60, 0xFF, 0xFE, 0xEE, 0xCE, 0x4E, 0x0E, 0x06, 0xC0,
      0x88, 0x48, 0x18, 0x0C].map (fun p => (select p).map Kind.index) =
    [0, 1, 2, 3, 4, 5, 6, 7, 0, 4, 5, 0, 4, 5, 7, 6, 3, 2, 7, 7, 6, 4, 3].map some := by decide

/-- Vector table 2.9, fourth row. -/
theorem test_exc_return :
    (nextOf (exec (.excReturn 0x200) (saved .supervisor 0x3F))).map
      (fun s => (s.cpsr, s.mode, s.runState, s.pc, s.spsr.supervisor)) =
      some (0x3F, .system, .thumb, 0x200, 0x3F) := by decide

/-- Vector table 2.9, the three faults. -/
theorem test_exc_return_faults :
    newest (exec (.excReturn 0x100) State.reset) = some (.fault .unwrittenRead) ∧
      newest (exec (.excReturn 0x100) sys) = some (.fault .invalidMode) ∧
      newest (exec (.excReturn 0x100) (saved .supervisor 0)) = some (.fault .invalidMode) := by decide

/-- Vector table 2.10: RESET of a busy block. -/
theorem test_reset_busy :
    (nextOf (exec .reset ((busy.saveFlags .irq 0x1F).setSlot (.fiq 3) 9))).map
      (fun s => (s.cpsr, s.mode, s.runState, s.pc, s.slot (.fiq 3), s.spsrValid.irq)) =
      some (0xD3, .supervisor, .arm, 0, 0, false) := by decide

/-- RESET is the one command a fresh block accepts. -/
theorem test_reset_fresh :
    (nextOf (exec .reset fresh)).map (·.resetDone) = some true ∧
      newest (exec .cpsrRead fresh) = some (.fault .notReset) := by decide

/-! ### The step -/

/-- Vector table 2.10, last row: decoding comes before NotReset. -/
theorem test_step_decodes_first : newest (step (fresh.present ⟨0, 0⟩)) = some (.fault .illegalCommand) := by decide

/-- A table word presented after RESET is the next command the step performs. -/
theorem test_step_runs_table_word :
    (nextOf (step (State.reset.withFetchWord 32 0x0004000C))).map (fun s => (s.pc, s.driver)) = some (0x8, []) := by decide

/-! ### The address map and the notation -/

/-- W4, W5. -/
theorem test_ranges :
    Region.chipWramStack.range.contains 0x03007F00 = true ∧ Region.chipWramStack.range.contains 0x03007FFF = true ∧
      Region.chipWramStack.range.contains 0x03008000 = false ∧ Region.biosRom.range.length = 0x4000 := by decide

/-- The lines of W6 and P2 step 5 in the notation of R93. -/
theorem test_text :
    instrText (.dispatch 0x30) = some ("DISPATCH " ++ "\x7B" ++ "DABT, ADDR26" ++ "\x7D") ∧
      instrText (pseudoSetLr 0x104) = some "RF_WRITE cur, r14, 0x0000_0104" := by decide

/-! ### Witnesses: for each statement with hypotheses, values that meet them together -/

/-- The invariant of a running block in System. -/
theorem sys_inv : sys.Inv :=
  ⟨by decide, fun _ => by decide, fun _ => by decide, fun _ => by decide, by decide⟩

/-- The invariant of a block with a transaction to present. -/
theorem offered_inv : (offered 0x0004000C 0).Inv :=
  ⟨by decide, fun _ => by decide, fun _ => by decide, fun _ => by decide, by decide⟩

/-- The invariant of a block in Supervisor whose saved flags name System. -/
theorem saved_inv : (saved .supervisor 0x3F).Inv :=
  ⟨by decide, fun _ => by decide, fun _ => by decide, fun _ => by decide, by decide⟩

theorem witness_decode_of_encode : (Instr.rfRead .current 15).wellFormed = true := by decide

theorem witness_decoded_command :
    decode ⟨0x00000006, 5⟩ = .ok (.cpsrWrite 5) ∧ opField 0x00000006 ∈ [0x2, 0x4, 0x6, 0x8, 0xD] ∧
      decode ⟨0x0000000B, 3⟩ = .ok (.runstateWrite .thumb) ∧ opField 0x0000000B = 0xB := ⟨rfl, by decide, rfl, by decide⟩

/-- Both sides at their edges: `msel` 5, 6 and 7, and `idx` 15. -/
theorem witness_illegal_words :
    (offered 0x00000F61 0).halted = false ∧ (offered 0x00000F61 0).driver = [⟨0x00000F61, 0⟩] ∧
      decide (IllegalWord 0x00000F61) = true ∧ decide (IllegalWord 0x00000F51) = false ∧
      decide (IllegalWord 0x00000F71) = false ∧ decide (IllegalWord 0x80000003) = true := by decide

theorem witness_example_encodings :
    (offered 0x00000D61 0).Running ∧ (offered 0x00000D61 0).driver = ⟨0x00000D61, 0⟩ :: [] := by decide

theorem witness_decoded_word_matches_row :
    decode ⟨0x00FF000C, 0⟩ = .ok (.dispatch 0xFF) ∧ OpcodeRow.matches ⟨"DISPATCH", 0xC, 0xFF00FFFF⟩ 0x00FF000C = true :=
  ⟨rfl, by decide⟩

theorem witness_table_row_words :
    ⟨"RF_READ", 0x1, 0xFFFFF08F⟩ ∈ opcodeTable ∧ OpcodeRow.matches ⟨"RF_READ", 0x1, 0xFFFFF08F⟩ 0x00000F71 = true ∧
      OpcodeRow.matches ⟨"RF_READ", 0x1, 0xFFFFF08F⟩ 0x00000F61 = true := by decide

theorem witness_step_performs :
    (offered 0x0004000C 0).driver = ⟨0x0004000C, 0⟩ :: [] ∧ decode ⟨0x0004000C, 0⟩ = .ok (.dispatch 0x04) :=
  ⟨by decide, rfl⟩

theorem witness_halted : dead.halted = true := by decide

theorem witness_no_command : State.reset.halted = false ∧ State.reset.driver = [] := by decide

theorem witness_each_step :
    (offered 0x0004000C 0).driver = ⟨0x0004000C, 0⟩ :: [] ∧ ∃ s', step (offered 0x0004000C 0) = .next s' :=
  ⟨by decide, _, rfl⟩

theorem witness_register_map :
    Mode.fiq ∈ Mode.all ∧ ¬ (Mode.system = .system ∧ (13 : BitVec 4) = 14) ∧ ¬ (Mode.fiq = .system ∧ (14 : BitVec 4) = 14) := by
  decide

/-- RF_READ and RF_WRITE: a slot at index 14, index 15, System r14 with 14 slots, a block not reset. -/
theorem witness_rf :
    State.reset.Running ∧ ModeSel.current.pick State.reset.mode = some .supervisor ∧
      State.reset.resolve .supervisor 14 = some (.svc 1) ∧ small.Running ∧
      (ModeSel.mode .system).pick small.mode = some .system ∧ small.params.baseBankSlots = .fourteen ∧
      ModeSel.current ≠ .reserved ∧ fresh.halted = false ∧ fresh.resetDone = false := by decide

theorem witness_rf_unused_bits :
    opField 0x00001D01 = 0x1 ∧ (0x00001D01 : Word) &&& 0xFFFFF080 ≠ 0 ∧ opField 0x00000D82 = 0x2 ∧
      (0x00000D82 : Word) &&& 0xFFFFF080 ≠ 0 := by decide

/-- Two views of one slot, and two views of two slots. -/
theorem witness_writes_seen :
    State.reset.Running ∧ State.reset.resolve .abort 12 = some (.base 12) ∧
      State.reset.resolve .system 12 = some (.base 12) ∧ State.reset.resolve .fiq 12 = some (.fiq 4) := by decide

theorem witness_only_legal_word : opField 0x00000013 = opField 0x00000003 ∧ (0x00000013 : Word) ≠ 0x00000003 := by decide

theorem witness_running_inv : sys.Running ∧ sys.Inv := ⟨by decide, sys_inv⟩

theorem witness_cpsr_write :
    State.reset.Running ∧ LegalParams State.reset.params ∧
      (0xFFFFFFFF : Word).extractLsb' 0 5 = encodeMode State.reset.params.modeEnc .system ∧
      ∀ m ∈ Mode.all, (0x00000010 : Word).extractLsb' 0 5 ≠ encodeMode State.reset.params.modeEnc m := by decide

/-- SPSR_READ and SPSR_WRITE: a written flag set, an unwritten one, System. -/
theorem witness_spsr :
    (saved .irq 0x1F).Running ∧ (ModeSel.mode .irq).pick (saved .irq 0x1F).mode = some ExcMode.irq.toMode ∧
      (saved .irq 0x1F).spsrValid.get .irq = true ∧ (saved .irq 0x1F).spsrValid.get .fiq = false ∧
      (ModeSel.mode .fiq).pick (saved .irq 0x1F).mode = some ExcMode.fiq.toMode ∧
      ModeSel.current.pick sys.mode = some .system ∧ sys.Running ∧ ExcMode.fiq ≠ ExcMode.irq := by decide

theorem witness_spsr_unused_bits :
    opField 0x00000107 = 0x7 ∧ (0x00000107 : Word) &&& 0xFFFFFF80 ≠ 0 ∧ opField 0x00000088 = 0x8 ∧
      (0x00000088 : Word) &&& 0xFFFFFF80 ≠ 0 := by decide

theorem witness_dispatch :
    busy.Running ∧ select 0x80 = some .fastInterrupt ∧ select 0x01 = some .reset ∧ (0x80 : BitVec 8) ≠ 0 ∧
      (0x81 : BitVec 8).getLsbD 0 = true ∧ opField 0x0080001C = 0xC ∧ (0x0080001C : Word) &&& 0xFF00FFF0 ≠ 0 := by decide

theorem witness_priority : select 0x30 = some .dataAbort ∧ (0x30 : BitVec 8).getLsbD Kind.addressExceeds26bit.index.toNat = true := by
  decide

theorem witness_unselected : select 0x30 = select 0x10 := by decide

/-- EXC_RETURN: the four cases, in the order of the statement. -/
theorem witness_exc_return :
    (saved .supervisor 0x3F).Running ∧ LegalParams (saved .supervisor 0x3F).params ∧
      (saved .supervisor 0x3F).mode = ExcMode.supervisor.toMode ∧
      (saved .supervisor 0x3F).spsrValid.get .supervisor = true ∧
      ((saved .supervisor 0x3F).spsr.get .supervisor).extractLsb' 0 5 = encodeMode defaultModeEnc .system ∧
      sys.Running ∧ sys.mode = .system ∧ State.reset.mode = ExcMode.supervisor.toMode ∧
      State.reset.spsrValid.get .supervisor = false ∧
      ∀ m ∈ Mode.all, ((saved .supervisor 0).spsr.get .supervisor).extractLsb' 0 5 ≠ encodeMode defaultModeEnc m := by
  decide

theorem witness_exc_return_composition :
    (saved .supervisor 0x3F).Inv ∧ (saved .supervisor 0x3F).Running ∧
      ∃ t, exec (.excReturn 0x200) (saved .supervisor 0x3F) = .next t ∧ t.halted = false :=
  ⟨saved_inv, by decide, _, rfl, rfl⟩

theorem witness_round_trip : sys.Inv ∧ sys.Running ∧ select 0x04 = some .softwareInterrupt ∧ Kind.softwareInterrupt ≠ .reset :=
  ⟨sys_inv, by decide⟩

theorem witness_nested :
    sys.Inv ∧ sys.Running ∧ select 0x44 = some .normalInterrupt ∧ select 0x84 = some .fastInterrupt ∧
      Kind.normalInterrupt ≠ .reset ∧ Kind.fastInterrupt ≠ .reset ∧
      (descriptor .normalInterrupt).mode ≠ (descriptor .fastInterrupt).mode := ⟨sys_inv, by decide⟩

theorem witness_reentry :
    sys.Running ∧ select 0x04 = some .softwareInterrupt ∧ select 0x20 = some .addressExceeds26bit ∧
      Kind.addressExceeds26bit ≠ .reset ∧
      (descriptor .softwareInterrupt).mode = (descriptor .addressExceeds26bit).mode := by decide

theorem witness_reset : fresh.halted = false ∧ ∃ t, exec .reset fresh = .next t := ⟨by decide, _, rfl⟩

theorem witness_power_on : (Instr.dispatch 0).wellFormed = true ∧ Instr.dispatch 0 ≠ .reset := by decide

theorem witness_legal_params : LegalParams defaultParams := by decide

theorem witness_invariant_step : (offered 0x0004000C 0).Inv ∧ ∃ s', step (offered 0x0004000C 0) = .next s' :=
  ⟨offered_inv, _, rfl⟩

/-- A command that none of the whole-machine statements excludes, and its next state. -/
theorem witness_whole_machine :
    (∃ t, exec .pcRead sys = .next t) ∧ (∀ v, Instr.pcRead ≠ .pcWrite v) ∧ (∀ p, Instr.pcRead ≠ .dispatch p) ∧
      (∀ v, Instr.pcRead ≠ .excReturn v) ∧ (∀ v, Instr.pcRead ≠ .cpsrWrite v) ∧
      (∀ sel idx v, Instr.pcRead ≠ .rfWrite sel idx v) ∧ Instr.pcRead ≠ .reset :=
  ⟨⟨_, rfl⟩, nofun, nofun, nofun, nofun, nofun, nofun⟩

/-- A saved flag set that a command changes, and one that it leaves readable. -/
theorem witness_saved_flags :
    (∃ t, exec (.spsrWrite (.mode .irq) 0x1F) (saved .fiq 0x11) = .next t ∧
      t.spsr.get .irq ≠ (saved .fiq 0x11).spsr.get .irq) ∧ (saved .fiq 0x11).spsrValid.get .fiq = true :=
  ⟨⟨_, rfl, by decide⟩, by decide⟩

theorem witness_faulting_step :
    (offered 0x0000000C 0).driver = ⟨0x0000000C, 0⟩ :: [] ∧
      ∃ s', step (offered 0x0000000C 0) = .next s' ∧ s'.halted = true := ⟨by decide, _, rfl, rfl⟩

/-- A state that no run reaches, in which the code is there before the step. -/
theorem witness_dispatch_conflict :
    ∃ s', step { State.reset with faultCode := .dispatchConflict } = .next s' ∧ s'.faultCode = .dispatchConflict :=
  ⟨_, rfl, rfl⟩

theorem witness_ranges :
    Region.ioRegisters.range.start ≤ Region.ioRegisters.range.stop ∧ Region.ioRegisters ∈ Region.topLevel ∧
      Region.ioRegisters.range.contains 0x040003FE = true ∧ Region.chipWramStack.range.contains 0x03007F00 = true := by
  decide

theorem witness_dutiful : dutifulDispatch 0x000000D3 0x42 = some (.dispatch 0x02) := by decide

end Sys2Proof.Tests
end

section
/-! SUPPORT. What a command and a step can answer, each said once, and from it the two statements about every step: one
transaction taken and one response presented (R81), and no parameter changed (R11). -/

namespace Sys2Proof.Machine

/-! ### The commands that complete -/

/-- `Performs i s u r`: in `s`, command `i` has no fault of its own, leaves `u` and completes with the response `r`. One
rule per command, with the guards of its meaning; the common checks of R273 stand in `Answers`. -/
inductive Performs : Instr → State → State → Response → Prop
  | rfRead {s : State} {sel : ModeSel} {idx : BitVec 4} {m : Mode} {sl : Slot}
      (hm : sel.pick s.mode = some m) (hsl : s.resolve m idx = some sl) :
      Performs (.rfRead sel idx) s s (.okData (s.slot sl))
  | rfWrite {s : State} {sel : ModeSel} {idx : BitVec 4} {m : Mode} {sl : Slot} {v : Word}
      (hm : sel.pick s.mode = some m) (hsl : s.resolve m idx = some sl) :
      Performs (.rfWrite sel idx v) s (s.setSlot sl v) .ok
  | pcRead {s : State} : Performs .pcRead s s (.okData s.pc)
  | pcWrite {s : State} {v : Word} : Performs (.pcWrite v) s { s with pc := v } .ok
  | cpsrRead {s : State} : Performs .cpsrRead s s (.okData s.cpsr)
  | cpsrWrite {s : State} {v : Word} {m : Mode} (hm : s.flagsMode (trunc v) = some m) :
      Performs (.cpsrWrite v) s (s.loadFlags (trunc v) m) .ok
  | spsrRead {s : State} {sel : ModeSel} {m : Mode} {e : ExcMode}
      (hm : sel.pick s.mode = some m) (he : m.exc? = some e) (hv : s.spsrValid.get e = true) :
      Performs (.spsrRead sel) s s (.okData (s.spsr.get e))
  | spsrWrite {s : State} {sel : ModeSel} {m : Mode} {e : ExcMode} {v : Word}
      (hm : sel.pick s.mode = some m) (he : m.exc? = some e) :
      Performs (.spsrWrite sel v) s (s.saveFlags e (trunc v)) .ok
  | modeRead {s : State} : Performs .modeRead s s (.okData (s.mode.index.setWidth 32))
  | runstateRead {s : State} : Performs .runstateRead s s (.okData (if s.runState.toBit then 1 else 0))
  | runstateWrite {s : State} {r : RunState} : Performs (.runstateWrite r) s (s.setRunState r) .ok
  | dispatch {s : State} {pend : BitVec 8} {k : Kind} (hk : select pend = some k) :
      Performs (.dispatch pend) s (s.enterException k) (.okDispatch s.pc k)
  | excReturn {s : State} {v : Word} {e : ExcMode} {m : Mode} (he : s.mode.exc? = some e)
      (hv : s.spsrValid.get e = true) (hm : s.flagsMode (s.spsr.get e) = some m) :
      Performs (.excReturn v) s (s.returnTo (s.spsr.get e) m v) .ok
  | reset {s : State} : Performs .reset s s.resetBlock .ok

/-- A command's own part touches neither the parameters nor the two interface histories (R11, R81). -/
theorem Performs.frame {i : Instr} {s u : State} {r : Response} (h : Performs i s u r) :
    u.params = s.params ∧ u.driver = s.driver ∧ u.responses = s.responses := by
  cases h <;> simp

/-! ### What a command can answer -/

/-- What a command's own part can be, the common checks passed: a fault of its own, or it completes. -/
inductive OwnPart (i : Instr) (s : State) : Result → Prop
  | fault {c : FaultCode} (hc : c ∉ [FaultCode.none, .dispatchConflict]) : OwnPart i s (fail s c)
  | done {u : State} {r : Response} (hp : Performs i s u r) : OwnPart i s (complete u r)

/-- The next states a command can answer: the fault of R270 with one of the codes that are ever raised, or the state of
a command that completes. Only RESET completes in a block that no RESET has reached (R273). -/
inductive Answers (i : Instr) (s : State) : State → Prop
  | fault {c : FaultCode} (hh : s.halted = false) (hc : c ∉ [FaultCode.none, .dispatchConflict]) :
      Answers i s (s.raise c)
  | done {u : State} {r : Response} (hh : s.halted = false) (hr : i = .reset ∨ s.resetDone = true)
      (hp : Performs i s u r) : Answers i s (u.respond r)

/-- A command whose own part is reached answers what that part answers. -/
theorem OwnPart.answers {i : Instr} {s t : State} {body : Result} (hb : OwnPart i s body) (hh : s.halted = false)
    (hr : i = .reset ∨ s.resetDone = true) (h : body = .next t) : Answers i s t := by
  cases hb with
  | fault hc => cases h; exact .fault hh hc
  | done hp => cases h; exact .done hh hr hp

/-- The common checks add the NotReset fault (R273). -/
theorem OwnPart.answers_of_perform {i : Instr} {s t : State} {body : Result} (hb : OwnPart i s body)
    (h : perform s body = .next t) : Answers i s t := by
  obtain ⟨-, e⟩ | ⟨hh, -, e⟩ | ⟨hh, hr, e⟩ := perform_cases s body
  · cases e.symm.trans h
  · cases e.symm.trans h; exact .fault hh (by decide)
  · exact hb.answers hh (.inr hr) (e.symm.trans h)

/-- A mode selector adds the fault of its reserved value (R88). -/
theorem OwnPart.answers_of_performAs {i : Instr} {s t : State} {sel : ModeSel} {body : Mode → Result}
    (hb : ∀ m, sel.pick s.mode = some m → OwnPart i s (body m)) (h : performAs sel s body = .next t) :
    Answers i s t := by
  obtain ⟨-, e⟩ | ⟨hh, -, e⟩ | ⟨hh, -, -, e⟩ | ⟨m, hh, hm, hr, e⟩ := performAs_cases sel s body
  · cases e.symm.trans h
  · cases e.symm.trans h; exact .fault hh (by decide)
  · cases e.symm.trans h; exact .fault hh (by decide)
  · exact (hb m hm).answers hh (.inr hr) (e.symm.trans h)

/-- RESET's checks add no fault (R273). -/
theorem OwnPart.answers_of_performReset {s t : State} {body : Result} (hb : OwnPart .reset s body)
    (h : performReset s body = .next t) : Answers .reset s t := by
  cases hh : s.halted with
  | false => exact hb.answers hh (.inl rfl) ((performReset_running hh).symm.trans h)
  | true => simp [performReset, stuck, hh] at h

/-- Everything a command can answer as a next state. -/
theorem exec_answers {i : Instr} {s t : State} (h : exec i s = .next t) : Answers i s t := by
  cases i with
  | rfRead sel idx =>
    refine OwnPart.answers_of_performAs (fun m hm => ?_) h
    split
    · exact .fault (by decide)
    · next sl hsl => exact .done (.rfRead hm hsl)
  | rfWrite sel idx v =>
    refine OwnPart.answers_of_performAs (fun m hm => ?_) h
    split
    · exact .fault (by decide)
    · next sl hsl => exact .done (.rfWrite hm hsl)
  | pcRead => exact OwnPart.answers_of_perform (.done .pcRead) h
  | pcWrite v => exact OwnPart.answers_of_perform (.done .pcWrite) h
  | cpsrRead => exact OwnPart.answers_of_perform (.done .cpsrRead) h
  | cpsrWrite v =>
    refine OwnPart.answers_of_perform ?_ h
    split
    · exact .fault (by decide)
    · next m hm => exact .done (.cpsrWrite hm)
  | spsrRead sel =>
    refine OwnPart.answers_of_performAs (fun m hm => ?_) h
    split
    · exact .fault (by decide)
    · next e he =>
      split
      · next hv => exact .done (.spsrRead hm he hv)
      · exact .fault (by decide)
  | spsrWrite sel v =>
    refine OwnPart.answers_of_performAs (fun m hm => ?_) h
    split
    · exact .fault (by decide)
    · next e he => exact .done (.spsrWrite hm he)
  | modeRead => exact OwnPart.answers_of_perform (.done .modeRead) h
  | runstateRead => exact OwnPart.answers_of_perform (.done .runstateRead) h
  | runstateWrite r => exact OwnPart.answers_of_perform (.done .runstateWrite) h
  | dispatch pend =>
    refine OwnPart.answers_of_perform ?_ h
    split
    · exact .fault (by decide)
    · next k hk => exact .done (.dispatch hk)
  | excReturn v =>
    refine OwnPart.answers_of_perform ?_ h
    split
    · exact .fault (by decide)
    · next e he =>
      split
      · next hv =>
        split
        · exact .fault (by decide)
        · next m hm => exact .done (.excReturn he hv hm)
      · exact .fault (by decide)
  | reset => exact OwnPart.answers_of_performReset (.done .reset) h

/-! ### What a step can answer -/

/-- Everything a step can answer as a next state: nothing presented and nothing changed, an illegal word's fault, or the
answer of the command that the next transaction decodes to. -/
theorem step_cases {s s' : State} (h : step s = .next s') :
    s.halted = false ∧
      ((s.driver = [] ∧ s' = s) ∨
        ∃ t rest, s.driver = t :: rest ∧
          ((∃ e, decode t = .error e ∧ s' = { s with driver := rest }.raise .illegalCommand) ∨
            ∃ i, decode t = .ok i ∧ Answers i { s with driver := rest } s')) := by
  cases hh : s.halted with
  | true => simp [step, stuck, hh] at h
  | false =>
    refine ⟨rfl, ?_⟩
    cases hd : s.driver with
    | nil =>
      simp only [step, State.nextTransaction, hh, hd] at h
      cases h
      exact .inl ⟨rfl, rfl⟩
    | cons t rest =>
      refine .inr ⟨t, rest, rfl, ?_⟩
      cases hi : decode t with
      | error e =>
        simp only [step, State.nextTransaction, hh, hd, hi] at h
        cases h
        exact .inl ⟨e, rfl, rfl⟩
      | ok i =>
        simp only [step, State.nextTransaction, hh, hd, hi] at h
        exact .inr ⟨i, rfl, exec_answers h⟩

/-- `AnsweredOnce s s'`: from `s` to `s'` one response was presented, and neither a parameter nor what the driver has
yet to present changed. -/
structure AnsweredOnce (s s' : State) : Prop where
  params : s'.params = s.params
  driver : s'.driver = s.driver
  responses : ∃ r, s'.responses = r :: s.responses

theorem answeredOnce_raise (s : State) (c : FaultCode) : AnsweredOnce s (s.raise c) :=
  ⟨s.raise_params c, s.raise_driver c, _, s.raise_responses c⟩

/-- Whatever a command answers, it has answered once. -/
theorem Answers.answeredOnce {i : Instr} {s t : State} (h : Answers i s t) : AnsweredOnce s t := by
  cases h with
  | fault => exact answeredOnce_raise s _
  | @done u r _ _ hp =>
    obtain ⟨hparams, hdriver, hresponses⟩ := hp.frame
    exact ⟨hparams, hdriver, r, congrArg (r :: ·) hresponses⟩

/-- A step to which a transaction is presented takes it and answers once (R8, R81). -/
theorem step_answeredOnce {s s' : State} {t : Transaction} {rest : List Transaction} (hd : s.driver = t :: rest)
    (h : step s = .next s') : AnsweredOnce { s with driver := rest } s' := by
  obtain ⟨-, ⟨hnil, -⟩ | ⟨t₁, rest₁, hcons, hcase⟩⟩ := step_cases h
  · cases hd.symm.trans hnil
  · cases hd.symm.trans hcons
    obtain ⟨e, -, rfl⟩ | ⟨i, -, ha⟩ := hcase
    · exact answeredOnce_raise _ _
    · exact ha.answeredOnce

/-! ### The statements -/

/-- Settles O10: a step with a transaction presented answers once, for a fault as for a command that completes. -/
theorem eachStepTakesOneCommandAndAnswersOnce : Obligations.EachStepTakesOneCommandAndAnswersOnce := by
  intro s s' t rest hd h
  obtain ⟨-, hdriver, hresponses⟩ := step_answeredOnce hd h
  exact ⟨hdriver, hresponses⟩

/-- Settles O43: a step with no transaction presented changes nothing, and one that answers keeps the parameters. -/
theorem noStepChangesAParameter : Obligations.NoStepChangesAParameter := by
  intro s s' h
  obtain ⟨-, ⟨-, rfl⟩ | ⟨t, rest, hd, -⟩⟩ := step_cases h
  · rfl
  · exact (step_answeredOnce hd h).params

end Sys2Proof.Machine
end

section
/-! SUPPORT. The slot map, and flag sets bit by bit: FLAG_MASK, the disable bits and the flags of an exception entry;
with the two statements about them. -/

namespace Sys2Proof.Machine

/-! ### The register map -/

/-- The two values of BASE_BANK_SLOTS differ in the shared bank's slot 14 alone (R24). -/
theorem sharedSlot_fourteen_of_ne {i : Nat} (h : i ≠ 14) : sharedSlot .fourteen i = sharedSlot .fifteen i := by
  have hlt : i < 14 ↔ i < 15 := by omega
  unfold sharedSlot
  split
  · exact if_congr hlt rfl rfl
  · rfl

/-- Settles O12: the two lists are computed row by row; BASE_BANK_SLOTS acts on the shared bank's slot 14 alone, and
every mode but System has its own r14. -/
theorem registerMapOfEveryModeAndIndex : Obligations.RegisterMapOfEveryModeAndIndex := by
  refine ⟨by decide, by decide, by decide, fun m idx hne => ?_⟩
  by_cases h14 : idx = 14
  · subst h14
    cases m with
    | system => exact absurd ⟨rfl, rfl⟩ hne
    | _ => rfl
  · have hnat : idx.toNat ≠ 14 := fun h => h14 (BitVec.eq_of_toNat_eq h)
    simp only [resolve, bankedSlot, sharedSlot_fourteen_of_ne hnat]

/-! ### Bits -/

theorem getLsbD_flagMask (i : Nat) :
    flagMask.getLsbD i = (decide (27 ≤ i ∧ i ≤ 31) || decide (i = 24) || decide (i ≤ 9)) := by
  rcases Nat.lt_or_ge i 32 with h | h
  · interval_cases i <;> rfl
  · rw [BitVec.getLsbD_of_ge _ _ h]; simp; omega

theorem getLsbD_irqDisableMask (i : Nat) : irqDisableMask.getLsbD i = decide (7 = i) :=
  (BitVec.getLsbD_twoPow 7 i).trans (Bool.true_and _)

theorem getLsbD_fiqDisableMask (i : Nat) : fiqDisableMask.getLsbD i = decide (6 = i) :=
  (BitVec.getLsbD_twoPow 6 i).trans (Bool.true_and _)

/-- Settles O18, by the bits of FLAG_MASK. -/
theorem truncationKeepsExactlyTheNamedBits : Obligations.TruncationKeepsExactlyTheNamedBits :=
  ⟨fun v i => by rw [getLsbD_trunc, getLsbD_flagMask], rfl⟩

/-! ### Truncation of an updated flag set -/

theorem trunc_or (f g : Word) : trunc (f ||| g) = trunc f ||| trunc g := by
  simp only [trunc, BitVec.and_comm _ flagMask, BitVec.and_or_distrib_left]

/-- The Mode field lies inside FLAG_MASK. -/
@[simp] theorem trunc_setModeField (f : Word) (b : BitVec 5) :
    trunc (setModeField f b) = setModeField (trunc f) b := by
  apply BitVec.eq_of_getLsbD_eq
  intro i _
  rw [getLsbD_trunc, getLsbD_setModeField, getLsbD_setModeField, getLsbD_trunc]
  split
  · have hm : flagMask.getLsbD i = true := by rw [getLsbD_flagMask]; simp; omega
    rw [hm, Bool.and_true]
  · rfl

/-- The T bit lies inside FLAG_MASK. -/
@[simp] theorem trunc_setThumbBit (f : Word) (r : RunState) :
    trunc (setThumbBit f r) = setThumbBit (trunc f) r := by
  apply BitVec.eq_of_getLsbD_eq
  intro i _
  rw [getLsbD_trunc, getLsbD_setThumbBit, getLsbD_setThumbBit, getLsbD_trunc]
  split
  · next h5 => rw [h5]; exact Bool.and_true _
  · rfl

/-! ### The flags of an exception entry (R182) -/

/-- Entry sets no bit outside FLAG_MASK. -/
@[simp] theorem trunc_entryFlags (p : Params) (d : Descriptor) (f : Word) :
    trunc (entryFlags p d f) = entryFlags p d (trunc f) := by
  have hI : trunc (if d.forceI then irqDisableMask else 0) = if d.forceI then irqDisableMask else 0 := by
    split <;> rfl
  have hF : trunc (if d.forceF then fiqDisableMask else 0) = if d.forceF then fiqDisableMask else 0 := by
    split <;> rfl
  simp only [entryFlags, trunc_setThumbBit, trunc_setModeField, trunc_or, hI, hF]

@[simp] theorem modeField_entryFlags (p : Params) (d : Descriptor) (f : Word) :
    modeField (entryFlags p d f) = encodeMode p.modeEnc d.mode.toMode := by
  simp [entryFlags]

/-- After entry the Mode field names the entry mode (R182 step 3). -/
theorem decodeMode_entryFlags {p : Params} (hp : LegalParams p) (d : Descriptor) (f : Word) :
    decodeMode p.modeEnc (modeField (entryFlags p d f)) = some d.mode.toMode := by
  rw [modeField_entryFlags]
  exact decodeMode_encodeMode hp _

@[simp] theorem thumbBit_entryFlags (p : Params) (d : Descriptor) (f : Word) :
    thumbBit (entryFlags p d f) = false := by
  simp [entryFlags, RunState.toBit]

/-- Entry keeps every bit above I. -/
theorem getLsbD_entryFlags_of_ge (p : Params) (d : Descriptor) (f : Word) {i : Nat} (h : 8 ≤ i) :
    (entryFlags p d f).getLsbD i = f.getLsbD i := by
  have hI : irqDisableMask.getLsbD i = false := by rw [getLsbD_irqDisableMask]; simp; omega
  have hF : fiqDisableMask.getLsbD i = false := by rw [getLsbD_fiqDisableMask]; simp; omega
  rw [entryFlags, getLsbD_setThumbBit, if_neg (by omega), getLsbD_setModeField, if_neg (by omega)]
  cases d.forceI <;> cases d.forceF <;> simp [hI, hF]

/-- Entry of the Reset kind on cleared flags gives the flags of R43. -/
theorem entryFlags_reset (p : Params) : entryFlags p (descriptor .reset) 0 = resetFlags p := by
  simp only [entryFlags, resetFlags, descriptor, ExcMode.toMode]
  generalize encodeMode p.modeEnc .supervisor = b
  revert b
  decide

end Sys2Proof.Machine
end

section
/-! SUPPORT. The invariant: each update of the state keeps it, RESET establishes it, and from that the two statements
about it. -/

namespace Sys2Proof.Machine

/-! ### RESET -/

/-- What RESET leaves: the reset state of the block's parameters, but for the saved flag sets' words, the fault record
and the two interface histories (R190, R43). -/
theorem resetBlock_eq (s : State) :
    s.resetBlock = { State.resetWith s.params with
      spsr := s.spsr, halted := s.halted, faultCode := s.faultCode, responses := s.responses, driver := s.driver } := by
  have hpc : s.params.vectorBase + (descriptor .reset).offset = s.params.vectorBase := BitVec.add_zero _
  simp only [State.resetBlock, State.enterException, State.zeroBanks, State.resetWith, saveOnEntry_reset,
    entryFlags_reset, hpc]
  rfl

/-- RESET of the reset state changes nothing. -/
theorem resetBlock_resetWith (p : Params) : (State.resetWith p).resetBlock = State.resetWith p := resetBlock_eq _

/-- RESET establishes the invariant: it needs legal parameters and a correct fault record only. -/
theorem inv_resetBlock {s : State} (hp : LegalParams s.params) (hh : s.HaltRecorded) : s.resetBlock.Inv where
  params := hp
  mode _ := decodeMode_entryFlags hp _ _
  runState _ := thumbBit_entryFlags _ _ _
  flags _ := by
    refine ⟨trunc_entryFlags _ _ 0, fun m _ hv => ?_⟩
    cases m <;> exact Bool.noConfusion hv
  halt := hh

/-- Settles O41: the reset state is a state that RESET leaves, and RESET establishes the invariant. -/
theorem invariantHoldsAfterReset : Obligations.InvariantHoldsAfterReset := by
  have hreset (p : Params) (hp : LegalParams p) : (State.resetWith p).Inv := by
    rw [← resetBlock_resetWith]
    exact inv_resetBlock hp ⟨nofun, fun hne => absurd rfl hne⟩
  exact ⟨hreset defaultParams (by decide), hreset⟩

/-! ### Each update keeps the invariant -/

/-- The invariant reads neither the banks, nor the pc, nor the two interface histories. -/
theorem State.Inv.frame {s t : State} (h : s.Inv)
    (e : t = { s with
      base := t.base, fiq := t.fiq, svc := t.svc, abt := t.abt, irq := t.irq, und := t.und, pc := t.pc,
      responses := t.responses, driver := t.driver }) : t.Inv := by
  rw [e]
  exact ⟨h.params, h.mode, h.runState, h.flags, h.halt⟩

theorem State.Inv.respond {s : State} (h : s.Inv) (r : Response) : (s.respond r).Inv := h.frame rfl

theorem State.Inv.setSlot {s : State} (h : s.Inv) (sl : Slot) (v : Word) : (s.setSlot sl v).Inv := by
  cases sl <;> exact h.frame rfl

/-- A fault sets the fault code and halts the block at once (R270). -/
theorem State.Inv.raise {s : State} (h : s.Inv) {c : FaultCode} (hc : c ≠ .none) : (s.raise c).Inv :=
  ⟨h.params, h.mode, h.runState, h.flags, iff_of_true rfl hc⟩

/-- A flag set whose Mode field names the new mode may be loaded if it is truncated. -/
theorem State.Inv.loadFlags {s : State} (h : s.Inv) {f : Word} {m : Mode} (hm : s.flagsMode f = some m)
    (hf : s.resetDone = true → trunc f = f) : (s.loadFlags f m).Inv where
  params := h.params
  mode _ := hm
  runState _ := (toBit_ofBit _).symm
  flags hr := ⟨hf hr, (h.flags hr).2⟩
  halt := h.halt

/-- A truncated flag set may be saved. -/
theorem State.Inv.saveFlags {s : State} (h : s.Inv) (e : ExcMode) {f : Word}
    (hf : s.resetDone = true → trunc f = f) : (s.saveFlags e f).Inv where
  params := h.params
  mode := h.mode
  runState := h.runState
  flags hr := by
    obtain ⟨hcpsr, hspsr⟩ := h.flags hr
    refine ⟨hcpsr, fun m hm hv => ?_⟩
    rw [State.saveFlags_spsr, PerExc.get_set]
    rw [State.saveFlags_spsrValid, PerExc.get_set] at hv
    split
    · exact hf hr
    · next hne =>
      rw [if_neg hne] at hv
      exact hspsr m hm hv
  halt := h.halt

theorem State.Inv.setRunState {s : State} (h : s.Inv) (r : RunState) : (s.setRunState r).Inv where
  params := h.params
  mode hr := (congrArg (decodeMode s.params.modeEnc) (modeField_setThumbBit s.cpsr r)).trans (h.mode hr)
  runState _ := thumbBit_setThumbBit s.cpsr r
  flags hr := by
    obtain ⟨hcpsr, hspsr⟩ := h.flags hr
    refine ⟨?_, hspsr⟩
    rw [State.setRunState_cpsr, trunc_setThumbBit, hcpsr]
  halt := h.halt

/-- Entry saves the current flags, which are truncated, or nothing. -/
theorem State.Inv.saveOnEntry {s : State} (h : s.Inv) (k : Kind) : (s.saveOnEntry k).Inv := by
  by_cases hk : k = .reset
  · subst hk; exact h
  · rw [saveOnEntry_of_ne hk]
    exact h.saveFlags _ fun hr => (h.flags hr).1

theorem State.Inv.enterException {s : State} (h : s.Inv) (k : Kind) : (s.enterException k).Inv where
  params := by rw [State.enterException_params]; exact h.params
  mode _ := by
    rw [State.ModeAgrees, State.flagsMode, State.enterException_params]
    exact decodeMode_entryFlags h.params _ _
  runState _ := thumbBit_entryFlags _ _ _
  flags hr := by
    obtain ⟨hcpsr, hspsr⟩ := (h.saveOnEntry k).flags hr
    rw [State.saveOnEntry_cpsr] at hcpsr
    refine ⟨?_, hspsr⟩
    rw [State.enterException_cpsr, trunc_entryFlags, hcpsr]
  halt := (h.saveOnEntry k).halt

/-- A command's own part keeps the invariant. -/
theorem Performs.inv {i : Instr} {s u : State} {r : Response} (hp : Performs i s u r) (h : s.Inv) : u.Inv := by
  cases hp with
  | rfWrite => exact h.setSlot _ _
  | pcWrite => exact h.frame rfl
  | cpsrWrite hm => exact h.loadFlags hm fun _ => trunc_trunc _
  | spsrWrite => exact h.saveFlags _ fun _ => trunc_trunc _
  | runstateWrite => exact h.setRunState _
  | dispatch => exact h.enterException _
  | @excReturn _ _ e _ _ hv hm =>
    exact (h.loadFlags hm fun hr => (h.flags hr).2 e (by cases e <;> decide) hv).frame rfl
  | reset => exact inv_resetBlock h.params h.halt
  | _ => exact h

theorem Answers.inv {i : Instr} {s t : State} (ha : Answers i s t) (h : s.Inv) : t.Inv := by
  cases ha with
  | fault _ hc => exact h.raise fun e => hc (by simp [e])
  | done _ _ hp => exact (hp.inv h).respond _

/-- Settles O42: a fault, an illegal word's or a command's, halts with its code; each command that completes keeps the
invariant. -/
theorem everyStepKeepsTheInvariant : Obligations.EveryStepKeepsTheInvariant := by
  intro s s' h hstep
  obtain ⟨-, ⟨-, rfl⟩ | ⟨t, rest, -, hcase⟩⟩ := step_cases hstep
  · exact h
  · have htaken : { s with driver := rest }.Inv := h.frame rfl
    obtain ⟨e, -, rfl⟩ | ⟨i, -, ha⟩ := hcase
    · exact htaken.raise (by decide)
    · exact ha.inv htaken

end Sys2Proof.Machine
end

section
/-! SUPPORT. When a command completes and when it faults NotReset, each said once for all commands; and the statements
about a write seen through another view and about power-on. -/

namespace Sys2Proof.Machine

/-! ### The commands that complete, and those before the first RESET -/

/-- A running block completes every command that has no fault of its own: the converse of `exec_answers`. -/
theorem Performs.exec_eq {i : Instr} {s u : State} {r : Response} (hp : Performs i s u r) (hs : s.Running) :
    exec i s = .next (u.respond r) := by
  obtain ⟨hh, hr⟩ := hs
  cases hp with
  | rfRead hm hsl => simp only [exec, execRfRead, performAs_running hm hh hr, hsl, complete]
  | rfWrite hm hsl => simp only [exec, execRfWrite, performAs_running hm hh hr, hsl, complete]
  | cpsrWrite hm => simp only [exec, execCpsrWrite, perform_running hh hr, hm, complete]
  | spsrRead hm he hv =>
    simp only [exec, execSpsrRead, performAs_running hm hh hr, he, hv, complete, if_true]
  | spsrWrite hm he => simp only [exec, execSpsrWrite, performAs_running hm hh hr, he, complete]
  | dispatch hk => simp only [exec, execDispatch, perform_running hh hr, hk, complete]
  | excReturn he hv hm => simp only [exec, execExcReturn, perform_running hh hr, he, hv, hm, complete, if_true]
  | reset => exact performReset_running hh
  | _ => exact perform_running hh hr

/-- RESET completes in every block that is not halted, reset or not (R190). -/
theorem exec_reset {s : State} (hh : s.halted = false) : exec .reset s = .next (s.resetBlock.respond .ok) :=
  performReset_running hh

theorem perform_notReset {s : State} {body : Result} (hh : s.halted = false) (hr : s.resetDone = false) :
    perform s body = .next (s.raise .notReset) := by
  simp [perform, fail, hh, hr]

theorem performAs_notReset {sel : ModeSel} {s : State} {body : Mode → Result} (hsel : sel.legal = true)
    (hh : s.halted = false) (hr : s.resetDone = false) : performAs sel s body = .next (s.raise .notReset) := by
  cases sel with
  | reserved => exact Bool.noConfusion hsel
  | _ => exact perform_notReset hh hr

/-- Before the first RESET every legal command but RESET faults NotReset (R42, R273). -/
theorem needsReset_of_wellFormed {i : Instr} (hw : i.wellFormed = true) (hi : i ≠ .reset) : NeedsReset i := by
  intro s hh hr
  cases i with
  | rfRead sel _ | rfWrite sel _ _ | spsrRead sel | spsrWrite sel _ => exact performAs_notReset hw hh hr
  | reset => exact absurd rfl hi
  | _ => exact perform_notReset hh hr

/-! ### The statements -/

/-- Settles O15: the write sets one slot and resolves no view anew, and the read answers the slot of its view. -/
theorem writesAreSeenExactlyThroughTheSameSlot : Obligations.WritesAreSeenExactlyThroughTheSameSlot := by
  intro s m m' idx idx' sl sl' v hs hsl hsl'
  refine ⟨(s.setSlot sl v).respond .ok, (Performs.rfWrite rfl hsl).exec_eq hs, by simp, ?_⟩
  have hread : Performs (.rfRead (.mode m') idx') ((s.setSlot sl v).respond .ok) _ _ :=
    .rfRead (sl := sl') rfl (by simpa using hsl')
  rw [hread.exec_eq (by simpa [State.Running] using hs)]
  simp only [State.slot_respond, State.slot_setSlot, eq_comm]

/-- Settles O40: at power-on nothing is halted and nothing reset, and RESET leaves the reset state but for the saved
flag sets' words. -/
theorem powerOnAcceptsOnlyReset : Obligations.PowerOnAcceptsOnlyReset := by
  intro p
  refine ⟨rfl, rfl, rfl, fun i hw hi => needsReset_of_wellFormed hw hi _ rfl rfl, _, exec_reset rfl, ?_⟩
  rw [resetBlock_eq]
  rfl

end Sys2Proof.Machine
end

section
/-! SUPPORT. What the commands leave alone: the pc, the mode, the stored flags and the saved flag sets, each with its
statement. -/

namespace Sys2Proof.Machine

/-- Settles O44: a fault keeps the pc, and so does every other command that completes. -/
theorem onlyFourCommandsWriteThePc : Obligations.OnlyFourCommandsWriteThePc := by
  intro i s t h hpcWrite hdispatch hexcReturn hreset
  cases exec_answers h with
  | fault => rfl
  | done _ _ hp =>
    cases hp with
    | pcWrite => exact absurd rfl (hpcWrite _)
    | dispatch => exact absurd rfl (hdispatch _)
    | excReturn => exact absurd rfl (hexcReturn _)
    | reset => exact absurd rfl hreset
    | rfWrite => exact State.setSlot_pc _ _ _
    | _ => rfl

/-- Settles O45: a fault keeps the mode tag, and so does every other command that completes. -/
theorem onlyFourCommandsWriteTheMode : Obligations.OnlyFourCommandsWriteTheMode := by
  intro i s t h hcpsrWrite hdispatch hexcReturn hreset
  cases exec_answers h with
  | fault => rfl
  | done _ _ hp =>
    cases hp with
    | cpsrWrite => exact absurd rfl (hcpsrWrite _)
    | dispatch => exact absurd rfl (hdispatch _)
    | excReturn => exact absurd rfl (hexcReturn _)
    | reset => exact absurd rfl hreset
    | rfWrite => exact State.setSlot_mode _ _ _
    | _ => rfl

/-! ### The stored flags -/

/-- The eight stored flags all lie from bit 8 up (R32). -/
theorem sameStoredFlags_of_getLsbD_eq {f g : Word} (h : ∀ i, 8 ≤ i → f.getLsbD i = g.getLsbD i) :
    SameStoredFlags f g :=
  ⟨h 31 (by decide), h 30 (by decide), h 29 (by decide), h 28 (by decide), h 27 (by decide), h 24 (by decide),
    h 9 (by decide), h 8 (by decide)⟩

theorem sameStoredFlags_entryFlags (p : Params) (d : Descriptor) (f : Word) :
    SameStoredFlags (entryFlags p d f) f :=
  sameStoredFlags_of_getLsbD_eq fun _ h => getLsbD_entryFlags_of_ge p d f h

theorem sameStoredFlags_setThumbBit (f : Word) (r : RunState) : SameStoredFlags (setThumbBit f r) f :=
  sameStoredFlags_of_getLsbD_eq fun i h => by rw [getLsbD_setThumbBit, if_neg (by omega)]

/-- Settles O46: of the other commands only DISPATCH and RUNSTATE_WRITE touch the CPSR, and neither a bit from 8 up;
RESET enters the Reset kind on flags that are all 0. -/
theorem noSideEffectOnStoredFlags : Obligations.NoSideEffectOnStoredFlags := by
  refine ⟨fun i s t h hcpsrWrite hexcReturn hreset => ?_, fun s hh =>
    ⟨_, exec_reset hh, sameStoredFlags_entryFlags _ _ 0⟩⟩
  have hsame : SameStoredFlags s.cpsr s.cpsr := sameStoredFlags_of_getLsbD_eq fun _ _ => rfl
  cases exec_answers h with
  | fault => exact hsame
  | done _ _ hp =>
    cases hp with
    | cpsrWrite => exact absurd rfl (hcpsrWrite _)
    | excReturn => exact absurd rfl (hexcReturn _)
    | reset => exact absurd rfl hreset
    | dispatch => exact sameStoredFlags_entryFlags _ _ _
    | runstateWrite => exact sameStoredFlags_setThumbBit _ _
    | rfWrite => rw [State.respond_cpsr, State.setSlot_cpsr]; exact hsame
    | _ => exact hsame

/-! ### The saved flag sets -/

/-- `SavedFlagsStayReadable s u m`: from `s` to `u` the saved flag set of `m` changed only to become readable, and
stayed readable if it was. -/
structure SavedFlagsStayReadable (s u : State) (m : ExcMode) : Prop where
  changed : u.spsr.get m ≠ s.spsr.get m → u.spsrValid.get m = true
  stays : s.spsrValid.get m = true → u.spsrValid.get m = true

theorem savedFlagsStayReadable_refl (s : State) (m : ExcMode) : SavedFlagsStayReadable s s m :=
  ⟨fun h => absurd rfl h, id⟩

theorem savedFlagsStayReadable_saveFlags (s : State) (e m : ExcMode) (f : Word) :
    SavedFlagsStayReadable s (s.saveFlags e f) m := by
  by_cases he : e = m
  · have hv : (s.saveFlags e f).spsrValid.get m = true := by simp [he]
    exact ⟨fun _ => hv, fun _ => hv⟩
  · constructor <;> simp [PerExc.get_set_ne _ _ he]

theorem savedFlagsStayReadable_enterException (s : State) (k : Kind) (m : ExcMode) :
    SavedFlagsStayReadable s (s.enterException k) m := by
  have hsave : SavedFlagsStayReadable s (s.saveOnEntry k) m := by
    by_cases hk : k = .reset
    · subst hk; exact savedFlagsStayReadable_refl s m
    · rw [saveOnEntry_of_ne hk]; exact savedFlagsStayReadable_saveFlags ..
  exact ⟨hsave.changed, hsave.stays⟩

/-- Settles O48: SPSR_WRITE and DISPATCH leave what they save readable; RESET keeps the words, every other command the
validity bits too. -/
theorem onlyTwoCommandsWriteSavedFlags : Obligations.OnlyTwoCommandsWriteSavedFlags := by
  intro i s t m h
  cases exec_answers h with
  | fault => exact ⟨fun hne => absurd rfl hne, fun hv _ => hv⟩
  | done _ _ hp =>
    cases hp with
    | spsrWrite =>
      obtain ⟨hchanged, hstays⟩ := savedFlagsStayReadable_saveFlags s _ m _
      exact ⟨fun hne => ⟨hchanged hne, .inl ⟨_, _, rfl⟩⟩, fun hv _ => hstays hv⟩
    | dispatch =>
      obtain ⟨hchanged, hstays⟩ := savedFlagsStayReadable_enterException s _ m
      exact ⟨fun hne => ⟨hchanged hne, .inr ⟨_, rfl⟩⟩, fun hv _ => hstays hv⟩
    | reset => exact ⟨fun hne => absurd rfl hne, fun _ hreset => absurd rfl hreset⟩
    | rfWrite =>
      exact ⟨fun hne => absurd (by simp) hne, fun hv _ => by simpa using hv⟩
    | _ => exact ⟨fun hne => absurd rfl hne, fun hv _ => hv⟩

end Sys2Proof.Machine
end

section
/-! SUPPORT. The address map: what a range contains, read on natural numbers, and when two ranges exclude or hold each
other; from it the four statements about the named ranges and the vectors. -/

namespace Sys2Proof.Machine

/-- Containment on natural numbers: words compare unsigned (R64). -/
@[simp] theorem MemoryRange.contains_iff (r : MemoryRange) (a : Word) :
    r.contains a = true ↔ r.start.toNat ≤ a.toNat ∧ a.toNat ≤ r.stop.toNat := by
  simp [MemoryRange.contains, BitVec.ule]

/-- The offsets below the length of a range that is not inverted are those that do not run past its end (R64). -/
theorem MemoryRange.lt_length_iff {r : MemoryRange} (hr : r.start ≤ r.stop) (n : Nat) :
    n < r.length ↔ r.start.toNat + n ≤ r.stop.toNat := by
  have hle : r.start.toNat ≤ r.stop.toNat := hr
  rw [MemoryRange.length]
  omega

/-- An offset that does not run past the range's end does not wrap at 2^32 either. -/
theorem MemoryRange.toNat_start_add {r : MemoryRange} {n : Nat} (h : r.start.toNat + n ≤ r.stop.toNat) :
    (r.start + BitVec.ofNat 32 n).toNat = r.start.toNat + n := by
  rw [BitVec.toNat_add, BitVec.toNat_ofNat, Nat.add_mod_mod, Nat.mod_eq_of_lt (h.trans_lt r.stop.isLt)]

/-- Settles O54: the offset of an address is its distance from the start, and no offset below the length wraps. -/
theorem rangeHoldsLengthManyAddresses : Obligations.RangeHoldsLengthManyAddresses := by
  intro r a hr
  simp only [MemoryRange.contains_iff, MemoryRange.lt_length_iff hr]
  constructor
  · rintro ⟨hstart, hstop⟩
    have hdist : r.start.toNat + (a.toNat - r.start.toNat) = a.toNat := Nat.add_sub_cancel' hstart
    have hn : r.start.toNat + (a.toNat - r.start.toNat) ≤ r.stop.toNat := hdist.trans_le hstop
    exact ⟨_, hn, BitVec.eq_of_toNat_eq ((MemoryRange.toNat_start_add hn).trans hdist).symm⟩
  · rintro ⟨n, hn, rfl⟩
    rw [MemoryRange.toNat_start_add hn]
    exact ⟨Nat.le_add_right _ _, hn⟩

/-! ### The named ranges -/

/-- A range that ends below the start of another shares no address with it. -/
theorem MemoryRange.not_contains_of_stop_lt {r r' : MemoryRange} {a : Word} (h : r.stop < r'.start)
    (ha : r.contains a = true) : ¬ r'.contains a = true := by
  rw [MemoryRange.contains_iff] at ha ⊢
  exact fun ha' => Nat.not_le.mpr h (ha'.1.trans ha.2)

/-- A range whose bounds lie within another's is held by it. -/
theorem MemoryRange.contains_of_within {r r' : MemoryRange} {a : Word} (hstart : r'.start ≤ r.start)
    (hstop : r.stop ≤ r'.stop) (ha : r.contains a = true) : r'.contains a = true := by
  rw [MemoryRange.contains_iff] at ha ⊢
  exact ⟨Nat.le_trans hstart ha.1, ha.2.trans hstop⟩

/-- Of two different top-level ranges one ends below the start of the other (R63). -/
theorem topLevel_stop_lt_start : ∀ r ∈ Region.topLevel, ∀ r' ∈ Region.topLevel,
    r = r' ∨ r.range.stop < r'.range.start ∨ r'.range.stop < r.range.start := by decide

/-- Settles O55: different top-level ranges lie one below the other, and Chip WRAM's bounds enclose the stack's. -/
theorem topLevelRangesAreDisjoint : Obligations.TopLevelRangesAreDisjoint := by
  refine ⟨fun r hr r' hr' a ha ha' => ?_, fun a => MemoryRange.contains_of_within (by decide) (by decide)⟩
  obtain heq | hbelow | habove := topLevel_stop_lt_start r hr r' hr'
  · exact heq
  · exact absurd ha' (MemoryRange.not_contains_of_stop_lt hbelow ha)
  · exact absurd ha (MemoryRange.not_contains_of_stop_lt habove ha')

/-- Settles O53: the table of R63, evaluated row by row. -/
theorem namedRangesAndSizes : Obligations.NamedRangesAndSizes := by
  unfold Obligations.NamedRangesAndSizes
  decide

/-! ### The vectors -/

/-- No vector lies more than 0x1C bytes above VECTOR_BASE (R241). -/
theorem descriptor_offset_le (k : Kind) : (descriptor k).offset ≤ 0x1C := by
  cases k <;> decide

/-- Settles O56: the default VECTOR_BASE is the start of BIOS ROM, and the last vector is far below its end. -/
theorem defaultVectorsLieInBiosRom : Obligations.DefaultVectorsLieInBiosRom := by
  intro k
  have haddr : vectorAddress defaultParams k = (descriptor k).offset := BitVec.zero_add _
  have hlast : (descriptor k).offset.toNat ≤ 0x1C := descriptor_offset_le k
  rw [haddr, MemoryRange.contains_iff]
  exact ⟨Nat.zero_le _, hlast.trans (by decide)⟩

end Sys2Proof.Machine
end

section
/-! SUPPORT. The command word's fields: a field of an assembly is the one given, a word without reserved bits is the
assembly of its fields, and the legal words are those whose fields are legal. -/

namespace Sys2Proof.Machine

/-! ### Fields as masks -/

/-- The bits of a word that the field of `len` bits from `lo` up takes. -/
def fieldMask (lo len : Nat) : Word := (BitVec.allOnes len).setWidth 32 <<< lo

/-- A field taken out and put back in its place is the word with every other bit cleared. -/
theorem field_shiftLeft (w : Word) (lo len : Nat) :
    (w.extractLsb' lo len).setWidth 32 <<< lo = w &&& fieldMask lo len := by
  apply BitVec.eq_of_getLsbD_eq
  intro i _
  simp only [fieldMask, BitVec.getLsbD_shiftLeft, BitVec.getLsbD_setWidth, BitVec.getLsbD_extractLsb',
    BitVec.getLsbD_and, BitVec.getLsbD_allOnes]
  grind

theorem setWidth_opField (w : Word) : (opField w).setWidth 32 = w &&& fieldMask 0 4 :=
  (BitVec.shiftLeft_zero _).symm.trans (field_shiftLeft w 0 4)

theorem and_fieldMask_eq_zero_iff (w : Word) (lo len : Nat) :
    w &&& fieldMask lo len = 0 ↔ w.extractLsb' lo len = 0 := by
  rw [← field_shiftLeft]
  refine ⟨fun h => BitVec.eq_of_getLsbD_eq fun j hj => ?_, fun h => by simp [h]⟩
  have hbit := congrArg (BitVec.getLsbD · (lo + j)) h
  simp only [BitVec.getLsbD_shiftLeft, BitVec.getLsbD_setWidth, BitVec.getLsbD_extractLsb'] at hbit ⊢
  grind

/-- A word avoids two masks together if it avoids each. -/
theorem and_or_eq_zero_iff (w a b : Word) : w &&& (a ||| b) = 0 ↔ w &&& a = 0 ∧ w &&& b = 0 := by
  rw [BitVec.and_or_distrib_left]
  exact BitVec.or_eq_zero_iff

/-- Clearing the bits of a mask that a word avoids changes nothing. -/
theorem and_not_of_and_eq_zero {w m : Word} (h : w &&& m = 0) : w &&& ~~~m = w :=
  calc w &&& ~~~m
    _ = 0 ||| w &&& ~~~m := BitVec.zero_or.symm
    _ = w &&& (m ||| ~~~m) := by rw [← h, BitVec.and_or_distrib_left]
    _ = w := by rw [BitVec.or_not_self, BitVec.and_allOnes]

/-! ### Assembling and taking apart (R82) -/

/-- Bits 7, 15:12 and 31:24, which belong to no field (R83). -/
def reservedBits : Word := 0xFF00F080

theorem assemble_fields (w : Word) :
    assemble (opField w) (mselField w) (idxField w) (pendField w) = w &&& ~~~reservedBits := by
  simp only [assemble, setWidth_opField, mselField, idxField, pendField, field_shiftLeft,
    ← BitVec.and_or_distrib_left]
  rfl

@[simp] theorem fields_assemble (op : BitVec 4) (msel : BitVec 3) (idx : BitVec 4) (pend : BitVec 8) :
    opField (assemble op msel idx pend) = op ∧ mselField (assemble op msel idx pend) = msel ∧
      idxField (assemble op msel idx pend) = idx ∧ pendField (assemble op msel idx pend) = pend := by
  refine ⟨?_, ?_, ?_, ?_⟩ <;> apply BitVec.eq_of_getLsbD_eq <;> intro i _ <;>
    simp only [opField, mselField, idxField, pendField, assemble, BitVec.getLsbD_extractLsb', BitVec.getLsbD_or,
      BitVec.getLsbD_shiftLeft, BitVec.getLsbD_setWidth] <;>
    grind

@[simp] theorem assemble_and_reservedBits (op : BitVec 4) (msel : BitVec 3) (idx : BitVec 4) (pend : BitVec 8) :
    assemble op msel idx pend &&& reservedBits = 0 := by
  have h : assemble op msel idx pend = assemble op msel idx pend &&& ~~~reservedBits := by
    simpa using assemble_fields (assemble op msel idx pend)
  rw [h, BitVec.and_assoc]
  exact BitVec.and_zero

/-! ### Legal words (R83, R88) -/

/-- The fields of a legal word: an operation code that is not reserved, 0 in every field it does not use, and a selector
that is not the reserved 6. -/
abbrev LegalFields (op : BitVec 4) (msel : BitVec 3) (idx : BitVec 4) (pend : BitVec 8) : Prop :=
  op ≠ 0x0 ∧ op ≠ 0xF ∧ (op ∉ [0x1, 0x2, 0x7, 0x8] → msel = 0) ∧ (op ∈ [0x1, 0x2, 0x7, 0x8] → msel ≠ 6) ∧
    (op ∉ [0x1, 0x2] → idx = 0) ∧ (op ≠ 0xC → pend = 0)

theorem and_reservedBits_eq_zero_iff (w : Word) :
    w &&& reservedBits = 0 ↔ w.getLsbD 7 = false ∧ w.extractLsb' 12 4 = 0 ∧ w.extractLsb' 24 8 = 0 := by
  have hmask : reservedBits = BitVec.twoPow 32 7 ||| (fieldMask 12 4 ||| fieldMask 24 8) := rfl
  have hbit : w &&& BitVec.twoPow 32 7 = 0 ↔ w.getLsbD 7 = false := by
    rw [BitVec.and_twoPow]
    cases w.getLsbD 7 <;> decide
  simp only [hmask, and_or_eq_zero_iff, hbit, and_fieldMask_eq_zero_iff]

/-- The illegal encodings of R88 are the words with a reserved bit and those whose fields are not legal. -/
theorem not_illegalWord_iff (w : Word) :
    ¬ IllegalWord w ↔
      w &&& reservedBits = 0 ∧ LegalFields (opField w) (mselField w) (idxField w) (pendField w) := by
  rw [and_reservedBits_eq_zero_iff]
  grind

theorem not_illegalWord_assemble_iff {op : BitVec 4} {msel : BitVec 3} {idx : BitVec 4} {pend : BitVec 8} :
    ¬ IllegalWord (assemble op msel idx pend) ↔ LegalFields op msel idx pend := by
  rw [not_illegalWord_iff]
  simp only [assemble_and_reservedBits, fields_assemble, true_and]

end Sys2Proof.Machine
end

section
/-! SUPPORT. The decoder: its three checks find exactly the illegal words, and a legal word decodes to the command that
its operation code names; from it the two directions of the round trip. -/

namespace Sys2Proof.Machine

/-! ### The decoder's checks (R89) -/

theorem usesMsel_iff (op : BitVec 4) : usesMsel op = true ↔ op ∈ [0x1, 0x2, 0x7, 0x8] := by
  revert op; decide

/-- The decoder's mask takes in the reserved bits and every field the command does not use. -/
theorem unusedMask_eq (op : BitVec 4) :
    ~~~(0x0000000F ||| usedBits op) =
      reservedBits ||| ((if op ∈ [0x1, 0x2, 0x7, 0x8] then 0 else fieldMask 4 3) |||
        ((if op ∈ [0x1, 0x2] then 0 else fieldMask 8 4) ||| (if op = 0xC then 0 else fieldMask 16 8))) := by
  revert op; decide

theorem and_unusedMask_eq_zero_iff (w : Word) (op : BitVec 4) :
    w &&& ~~~(0x0000000F ||| usedBits op) = 0 ↔
      w &&& reservedBits = 0 ∧ (op ∉ [0x1, 0x2, 0x7, 0x8] → mselField w = 0) ∧
        (op ∉ [0x1, 0x2] → idxField w = 0) ∧ (op ≠ 0xC → pendField w = 0) := by
  have hfield (p : Prop) [Decidable p] (lo len : Nat) :
      w &&& (if p then 0 else fieldMask lo len) = 0 ↔ (¬ p → w.extractLsb' lo len = 0) := by
    rw [← and_fieldMask_eq_zero_iff]
    split <;> simp [*]
  simp only [unusedMask_eq, and_or_eq_zero_iff, hfield, mselField, idxField, pendField, ne_eq]

/-- The decoder's three checks pass exactly for the legal words. -/
theorem not_illegalWord_iff_checks (w : Word) :
    ¬ IllegalWord w ↔ ¬ (opField w = 0x0 ∨ opField w = 0xF) ∧
      w &&& ~~~(0x0000000F ||| usedBits (opField w)) = 0 ∧ ¬ (usesMsel (opField w) = true ∧ mselField w = 6) := by
  rw [not_illegalWord_iff, usesMsel_iff, and_unusedMask_eq_zero_iff]
  tauto

theorem decode_of_illegalWord {t : Transaction} (h : IllegalWord t.cmd) : ∃ e, decode t = .error e := by
  unfold decode
  split_ifs with hop hunused hsel
  · exact ⟨_, rfl⟩
  · exact ⟨_, rfl⟩
  · exact ⟨_, rfl⟩
  · exact absurd h ((not_illegalWord_iff_checks _).mpr ⟨hop, not_not.mp hunused, hsel⟩)

theorem decode_of_not_illegalWord {t : Transaction} (h : ¬ IllegalWord t.cmd) :
    decode t =
      instrOf (opField t.cmd) (.ofBits (mselField t.cmd)) (idxField t.cmd) (pendField t.cmd) t.wdata := by
  obtain ⟨hop, hunused, hsel⟩ := (not_illegalWord_iff_checks _).mp h
  rw [decode, if_neg hop, if_neg (not_not.mpr hunused), if_neg hsel]

theorem decode_of_instrOf {w v : Word} {i : Instr} (hlegal : ¬ IllegalWord w)
    (hi : instrOf (opField w) (.ofBits (mselField w)) (idxField w) (pendField w) v = .ok i) :
    decode ⟨w, v⟩ = .ok i :=
  (decode_of_not_illegalWord hlegal).trans hi

/-- A word that passes the first two checks is rejected for the reserved selector alone (R88). -/
theorem decode_of_reservedSelector {w v : Word} (hop : ¬ (opField w = 0x0 ∨ opField w = 0xF))
    (hunused : w &&& ~~~(0x0000000F ||| usedBits (opField w)) = 0)
    (hsel : usesMsel (opField w) = true ∧ mselField w = 6) : decode ⟨w, v⟩ = .error .reservedSelector := by
  rw [decode, if_neg hop, if_neg (not_not.mpr hunused), if_pos hsel]

/-! ### Decoding an encoded command -/

@[simp] theorem toBits_ofBits (b : BitVec 3) : (ModeSel.ofBits b).toBits = b := by
  revert b; decide

@[simp] theorem ofBits_toBits (sel : ModeSel) : ModeSel.ofBits sel.toBits = sel := by
  cases sel with
  | mode m => cases m <;> rfl
  | _ => rfl

theorem legal_iff_toBits_ne_six (sel : ModeSel) : sel.legal = true ↔ sel.toBits ≠ 6 := by
  cases sel with
  | mode m => cases m <;> decide
  | _ => decide

/-- An assembly of legal fields decodes to what they name. -/
theorem decode_assemble {op : BitVec 4} {sel : ModeSel} {idx : BitVec 4} {pend : BitVec 8} {v : Word}
    (h : LegalFields op sel.toBits idx pend) :
    decode ⟨assemble op sel.toBits idx pend, v⟩ = instrOf op sel idx pend v := by
  rw [decode_of_not_illegalWord (not_illegalWord_assemble_iff.mpr h)]
  simp only [fields_assemble, ofBits_toBits]

/-- Settles O1: a well-formed command's word is an assembly of legal fields, which decodes to the command it came from.
Selector 0 stands in the words of commands that use none. -/
theorem decodeOfEncodeIsTheCommand : Obligations.DecodeOfEncodeIsTheCommand := by
  intro i hw
  cases i with
  | rfRead sel _ | rfWrite sel _ _ | spsrRead sel | spsrWrite sel _ =>
    exact decode_assemble (by simpa [LegalFields] using (legal_iff_toBits_ne_six sel).mp hw)
  | dispatch pend => exact decode_assemble (sel := .mode .system) (by simp [LegalFields, ModeSel.toBits, Mode.index])
  | runstateWrite r => cases r <;> exact decode_assemble (sel := .mode .system) (by decide)
  | _ => exact decode_assemble (sel := .mode .system) (by decide)

/-! ### The command an operation code names (R84) -/

/-- `NamedBy msel idx pend v op i`: the operation code `op` names the command `i` when the fields and the write data are
as given. One rule per row of R84. -/
inductive NamedBy (msel : BitVec 3) (idx : BitVec 4) (pend : BitVec 8) (v : Word) : BitVec 4 → Instr → Prop
  | rfRead : NamedBy msel idx pend v 0x1 (.rfRead (.ofBits msel) idx)
  | rfWrite : NamedBy msel idx pend v 0x2 (.rfWrite (.ofBits msel) idx v)
  | pcRead : NamedBy msel idx pend v 0x3 .pcRead
  | pcWrite : NamedBy msel idx pend v 0x4 (.pcWrite v)
  | cpsrRead : NamedBy msel idx pend v 0x5 .cpsrRead
  | cpsrWrite : NamedBy msel idx pend v 0x6 (.cpsrWrite v)
  | spsrRead : NamedBy msel idx pend v 0x7 (.spsrRead (.ofBits msel))
  | spsrWrite : NamedBy msel idx pend v 0x8 (.spsrWrite (.ofBits msel) v)
  | modeRead : NamedBy msel idx pend v 0x9 .modeRead
  | runstateRead : NamedBy msel idx pend v 0xA .runstateRead
  | runstateWrite : NamedBy msel idx pend v 0xB (.runstateWrite (.ofBit (v.getLsbD 0)))
  | dispatch : NamedBy msel idx pend v 0xC (.dispatch pend)
  | excReturn : NamedBy msel idx pend v 0xD (.excReturn v)
  | reset : NamedBy msel idx pend v 0xE .reset

section
variable {msel : BitVec 3} {idx : BitVec 4} {pend : BitVec 8} {v : Word} {op : BitVec 4} {i : Instr}

/-- Every operation code that is not reserved names a command. -/
theorem exists_namedBy (h0 : op ≠ 0x0) (hF : op ≠ 0xF) (msel : BitVec 3) (idx : BitVec 4) (pend : BitVec 8)
    (v : Word) : ∃ i, instrOf op (.ofBits msel) idx pend v = .ok i ∧ NamedBy msel idx pend v op i := by
  have hop : op = 0x1 ∨ op = 0x2 ∨ op = 0x3 ∨ op = 0x4 ∨ op = 0x5 ∨ op = 0x6 ∨ op = 0x7 ∨ op = 0x8 ∨ op = 0x9 ∨
      op = 0xA ∨ op = 0xB ∨ op = 0xC ∨ op = 0xD ∨ op = 0xE := by
    revert op; decide
  obtain rfl | rfl | rfl | rfl | rfl | rfl | rfl | rfl | rfl | rfl | rfl | rfl | rfl | rfl := hop
  · exact ⟨_, rfl, .rfRead⟩
  · exact ⟨_, rfl, .rfWrite⟩
  · exact ⟨_, rfl, .pcRead⟩
  · exact ⟨_, rfl, .pcWrite⟩
  · exact ⟨_, rfl, .cpsrRead⟩
  · exact ⟨_, rfl, .cpsrWrite⟩
  · exact ⟨_, rfl, .spsrRead⟩
  · exact ⟨_, rfl, .spsrWrite⟩
  · exact ⟨_, rfl, .modeRead⟩
  · exact ⟨_, rfl, .runstateRead⟩
  · exact ⟨_, rfl, .runstateWrite⟩
  · exact ⟨_, rfl, .dispatch⟩
  · exact ⟨_, rfl, .excReturn⟩
  · exact ⟨_, rfl, .reset⟩

/-- The word of the command that legal fields name is their assembly. -/
theorem NamedBy.word (hn : NamedBy msel idx pend v op i) (h : LegalFields op msel idx pend) :
    i.word = assemble op msel idx pend := by
  obtain ⟨-, -, hmsel, -, hidx, hpend⟩ := h
  cases hn with
  | rfRead | rfWrite => simp [Instr.word, hpend (by decide)]
  | spsrRead | spsrWrite => simp [Instr.word, hidx (by decide), hpend (by decide)]
  | dispatch => simp [Instr.word, hmsel (by decide), hidx (by decide)]
  | _ => simp [Instr.word, hmsel (by decide), hidx (by decide), hpend (by decide)]

theorem NamedBy.wellFormed (hn : NamedBy msel idx pend v op i) (h : LegalFields op msel idx pend) :
    i.wellFormed = true := by
  obtain ⟨-, -, -, hsel, -⟩ := h
  have hlegal (hop : op ∈ [0x1, 0x2, 0x7, 0x8]) : (ModeSel.ofBits msel).legal = true := by
    rw [legal_iff_toBits_ne_six, toBits_ofBits]
    exact hsel hop
  cases hn with
  | rfRead | rfWrite | spsrRead | spsrWrite => exact hlegal (by decide)
  | _ => rfl

/-- The data a command carries is the write data, its bit 0 or none, by its operation code (R90). -/
theorem NamedBy.data (hn : NamedBy msel idx pend v op i) :
    i.data = if op ∈ [0x2, 0x4, 0x6, 0x8, 0xD] then v else if op = 0xB then v &&& 1 else 0 := by
  cases hn with
  | runstateWrite => simpa [Instr.data] using! (BitVec.and_twoPow v 0).symm
  | _ => rfl

end

/-! ### The word of a decoded command -/

theorem exists_decode {t : Transaction} (h : ¬ IllegalWord t.cmd) :
    ∃ i, decode t = .ok i ∧
      NamedBy (mselField t.cmd) (idxField t.cmd) (pendField t.cmd) t.wdata (opField t.cmd) i := by
  obtain ⟨-, h0, hF, -⟩ := (not_illegalWord_iff t.cmd).mp h
  rw [decode_of_not_illegalWord h]
  exact exists_namedBy h0 hF _ _ _ _

/-- A word that decodes is legal, and the command is the one that its operation code names. -/
theorem namedBy_of_decode {t : Transaction} {i : Instr} (h : decode t = .ok i) :
    ¬ IllegalWord t.cmd ∧
      NamedBy (mselField t.cmd) (idxField t.cmd) (pendField t.cmd) t.wdata (opField t.cmd) i := by
  have hlegal : ¬ IllegalWord t.cmd := fun hillegal => by
    obtain ⟨e, he⟩ := decode_of_illegalWord hillegal
    cases h.symm.trans he
  obtain ⟨j, hj, hn⟩ := exists_decode hlegal
  cases h.symm.trans hj
  exact ⟨hlegal, hn⟩

/-- Settles O2: the command that the word's fields name has their assembly as its word, and a legal word is the assembly
of its fields. -/
theorem decodedCommandHasTheGivenWord : Obligations.DecodedCommandHasTheGivenWord := by
  intro t i h
  obtain ⟨hlegal, hn⟩ := namedBy_of_decode h
  obtain ⟨hreserved, hfields⟩ := (not_illegalWord_iff t.cmd).mp hlegal
  have hdata := hn.data
  refine ⟨hn.wellFormed hfields, ?_, ?_, fun hop => hdata.trans (if_pos hop), fun hop => ?_⟩
  · rw [hn.word hfields, assemble_fields, and_not_of_and_eq_zero hreserved]
  · rw [hdata]
    split_ifs
    · exact .inl rfl
    · exact .inr (.inl rfl)
    · exact .inr (.inr rfl)
  · rw [hdata, hop]
    rfl

end Sys2Proof.Machine
end

section
/-! SUPPORT. The opcode table: a row matches the words with its operation code and nothing outside the fields that this
code uses, so no two rows match one word; with the two statements that the table and the decoder agree. -/

namespace Sys2Proof

open Machine

/-- Every command's word has the fixed bits of its own row. -/
theorem tableRow_statement (i : Instr) : Laws.TableRow.Statement i := by
  cases i with
  | rfRead sel idx => exact Laws.TableRow.rfRead sel idx
  | rfWrite sel idx v => exact Laws.TableRow.rfWrite sel idx v
  | pcRead => exact Laws.TableRow.pcRead
  | pcWrite v => exact Laws.TableRow.pcWrite v
  | cpsrRead => exact Laws.TableRow.cpsrRead
  | cpsrWrite v => exact Laws.TableRow.cpsrWrite v
  | spsrRead sel => exact Laws.TableRow.spsrRead sel
  | spsrWrite sel v => exact Laws.TableRow.spsrWrite sel v
  | modeRead => exact Laws.TableRow.modeRead
  | runstateRead => exact Laws.TableRow.runstateRead
  | runstateWrite r => exact Laws.TableRow.runstateWrite r
  | dispatch pend => exact Laws.TableRow.dispatch pend
  | excReturn v => exact Laws.TableRow.excReturn v
  | reset => exact Laws.TableRow.reset

/-! ### The words a row matches -/

/-- The operation code of a row. -/
def OpcodeRow.op (r : OpcodeRow) : BitVec 4 := opField r.pattern

/-- Every row fixes its operation code, which is not reserved, and 0 in every other bit outside the fields that this
code uses. -/
theorem opcodeTable_rows : ∀ r ∈ opcodeTable,
    ¬ (r.op = 0x0 ∨ r.op = 0xF) ∧ r.pattern = r.op.setWidth 32 ∧ r.mask = ~~~usedBits r.op := by
  decide

/-- No two rows have one operation code. -/
theorem opcodeRow_eq_of_op_eq : ∀ r ∈ opcodeTable, ∀ r' ∈ opcodeTable, r.op = r'.op → r = r' := by
  decide

theorem mnemonic_of_usesMsel : ∀ r ∈ opcodeTable, usesMsel r.op = true →
    r.mnemonic ∈ ["RF_READ", "RF_WRITE", "SPSR_READ", "SPSR_WRITE"] := by
  decide

/-- A word is a bare operation code if it has that code and no bit above it. -/
theorem eq_setWidth_iff (w : Word) (op : BitVec 4) :
    w = op.setWidth 32 ↔ opField w = op ∧ w &&& ~~~0x0000000F = 0 := by
  constructor
  · rintro rfl
    revert op; decide
  · rintro ⟨rfl, h⟩
    rw [setWidth_opField]
    exact (and_not_of_and_eq_zero h).symm

/-- No command uses a bit of the operation code for another field. -/
theorem opField_and_not_usedBits (w : Word) (op : BitVec 4) : opField (w &&& ~~~usedBits op) = opField w := by
  have hmask : opField (~~~usedBits op) = BitVec.allOnes 4 := by revert op; decide
  rw [opField, BitVec.extractLsb'_and]
  exact (congrArg (opField w &&& ·) hmask).trans BitVec.and_allOnes

theorem OpcodeRow.matches_iff {r : OpcodeRow} (hr : r ∈ opcodeTable) (w : Word) :
    r.matches w = true ↔ opField w = r.op ∧ w &&& ~~~(0x0000000F ||| usedBits (opField w)) = 0 := by
  obtain ⟨-, hpattern, hmask⟩ := opcodeTable_rows r hr
  rw [OpcodeRow.matches, beq_iff_eq, hmask, hpattern, eq_setWidth_iff, opField_and_not_usedBits]
  refine and_congr_right fun hop => ?_
  rw [hop, BitVec.not_or, BitVec.and_assoc, BitVec.and_comm (~~~_)]

/-! ### The statements -/

/-- Settles O5: the command's own row matches its word, and another row that matches has the same operation code. -/
theorem decodedWordMatchesExactlyItsTableRow : Obligations.DecodedWordMatchesExactlyItsTableRow := by
  intro t i h
  obtain ⟨-, hword, -⟩ := decodedCommandHasTheGivenWord t i h
  obtain ⟨r, hr, hmnemonic, hmatch⟩ := tableRow_statement i
  rw [hword] at hmatch
  refine ⟨r, hr, hmnemonic, hmatch, fun r' hr' hmatch' => opcodeRow_eq_of_op_eq r' hr' r hr ?_⟩
  obtain ⟨hop, -⟩ := (OpcodeRow.matches_iff hr _).mp hmatch
  obtain ⟨hop', -⟩ := (OpcodeRow.matches_iff hr' _).mp hmatch'
  exact hop'.symm.trans hop

/-- Settles O6: a word that a row matches passes the decoder's first two checks; if it passes the third too it is legal,
and the command's row can only be the given one. -/
theorem tableRowWordsDecodeToTheirCommand : Obligations.TableRowWordsDecodeToTheirCommand := by
  intro t r hr hmatch
  obtain ⟨hop, hunused⟩ := (OpcodeRow.matches_iff hr _).mp hmatch
  have hreserved : ¬ (opField t.cmd = 0x0 ∨ opField t.cmd = 0xF) := hop ▸ (opcodeTable_rows r hr).1
  by_cases hsel : usesMsel (opField t.cmd) = true ∧ mselField t.cmd = 6
  · exact .inr ⟨decode_of_reservedSelector hreserved hunused hsel, hsel.2, mnemonic_of_usesMsel r hr (hop ▸ hsel.1)⟩
  · obtain ⟨i, hi, -⟩ := exists_decode ((not_illegalWord_iff_checks _).mpr ⟨hreserved, hunused, hsel⟩)
    obtain ⟨r', -, hmnemonic, -, honly⟩ := decodedWordMatchesExactlyItsTableRow t i hi
    exact .inl ⟨i, hi, by rw [honly r hr hmatch, hmnemonic]⟩

end Sys2Proof
end

section
/-! SUPPORT. What a step does with the next transaction, by what it decodes to; with the statements about illegal words,
the examples of R95, ENTER_MODE and the output ports. -/

namespace Sys2Proof.Machine

/-! ### The step -/

/-- A halted block performs no command (R271). -/
theorem exec_of_halted {s : State} (hh : s.halted = true) (i : Instr) : exec i s = stuck s := by
  have hperform (body : Result) : perform s body = stuck s := by simp [perform, hh]
  have hperformAs (sel : ModeSel) (body : Mode → Result) : performAs sel s body = stuck s := by
    cases sel <;> simp [performAs, hperform, ModeSel.pick, hh]
  have hperformReset (body : Result) : performReset s body = stuck s := by simp [performReset, hh]
  cases i with
  | rfRead | rfWrite | spsrRead | spsrWrite => exact hperformAs _ _
  | reset => exact hperformReset _
  | _ => exact hperform _

/-- Settles O7: the step's own halted check answers as the command's does, and past it the step is the command. -/
theorem stepPerformsTheNextCommand : Obligations.StepPerformsTheNextCommand := by
  intro s t rest i hd hi
  by_cases hh : s.halted = true
  · rw [step, if_pos hh]
    exact (exec_of_halted (s := { s with driver := rest }) hh i).symm
  · simp only [step, if_neg hh, State.nextTransaction, hd, hi]

/-- A word that does not decode faults IllegalCommand (R88). -/
theorem step_of_decode_error {s : State} {t : Transaction} {rest : List Transaction} {e : Illegal}
    (hh : s.halted = false) (hd : s.driver = t :: rest) (he : decode t = .error e) :
    step s = .next ({ s with driver := rest }.raise .illegalCommand) := by
  simp [step, State.nextTransaction, illegalWord, fail, hh, hd, he]

/-! ### The statements -/

/-- Settles O3: the decoder rejects exactly the illegal words, and the step faults what it rejects. -/
theorem illegalWordsFaultAndAllOthersDecode : Obligations.IllegalWordsFaultAndAllOthersDecode := by
  intro s t rest hh hd
  refine ⟨fun hillegal => ?_, fun hlegal => ?_⟩
  · obtain ⟨e, he⟩ := decode_of_illegalWord hillegal
    exact step_of_decode_error hh hd he
  · obtain ⟨i, hi, -⟩ := exists_decode hlegal
    exact ⟨i, hi⟩

/-- Settles O4: the decoder computes every row of R95; the two commands pass the common checks of a running block and
fault on their own, and the word with the reserved selector does not decode. -/
theorem exampleEncodingsDecodeAsListed : Obligations.ExampleEncodingsDecodeAsListed := by
  have hreserved (v : Word) : decode ⟨0x00000D61, v⟩ = .error .reservedSelector :=
    decode_of_reservedSelector (by decide) (by decide) (by decide)
  refine ⟨fun v => ?_, fun s ⟨hh, hr⟩ => ⟨?_, ?_, fun v rest hd => step_of_decode_error hh hd (hreserved v)⟩⟩
  · refine ⟨?_, ?_, ?_, ?_, ?_, ?_, ?_, ?_, ?_, ?_, ?_, ?_, ?_, hreserved v⟩ <;>
      exact decode_of_instrOf (by decide) rfl
  · rw [exec, execSpsrRead, performAs_running rfl hh hr]
    rfl
  · rw [exec, execRfRead, performAs_running rfl hh hr]
    rfl

/-- The flags that ENTER_MODE writes name the mode (R94). -/
theorem State.Inv.flagsMode_enterMode {s : State} (h : s.Inv) (m : Mode) (f : Word) :
    s.flagsMode (trunc (setModeField f (encodeMode s.params.modeEnc m))) = some m := by
  rw [State.flagsMode, modeField_trunc, modeField_setModeField]
  exact decodeMode_encodeMode h.params m

/-- Settles O57: both commands complete; the flags written differ from the old ones, which are truncated already, in the
Mode field alone. -/
theorem enterModeKeepsTheOtherFlags : Obligations.EnterModeKeepsTheOtherFlags := by
  intro s m hinv hs
  obtain ⟨hcpsr, -⟩ := hinv.flags hs.2
  refine ⟨_, _, Performs.cpsrRead.exec_eq hs, rfl,
    (Performs.cpsrWrite ((hinv.respond _).flagsMode_enterMode m s.cpsr)).exec_eq hs, rfl, ?_, fun i hi => ?_⟩
  · simp [runStateOf, hinv.runState hs.2]
  · rw [State.respond_cpsr, State.loadFlags_cpsr, trunc_setModeField, hcpsr, getLsbD_setModeField,
      if_neg (by omega)]

/-- Settles O52: each response is the newest one once it has been presented. -/
theorem outputPortsShowTheNewestResponse : Obligations.OutputPortsShowTheNewestResponse := by
  intro s
  exact ⟨rfl, fun w => ⟨rfl, rfl⟩, fun pc k => ⟨rfl, rfl, rfl⟩, fun c => ⟨rfl, rfl, rfl⟩⟩

end Sys2Proof.Machine
end

section
/-! SUPPORT. What the register-file and pc commands rest on, each fact for every command that shares it: the words an
operation code leaves illegal, the views that name no slot and the fault of the reserved selector; with the statements
about RF_READ, RF_WRITE, PC_READ and PC_WRITE and the slots that every other command keeps. -/

namespace Sys2Proof.Machine

/-! ### Words with an operation code (R83, R84) -/

/-- The illegal bits of an operation code are those of the decoder's mask. -/
theorem unusedBitsIllegal (op : BitVec 4) : UnusedBitsIllegal op (~~~(0x0000000F ||| usedBits op)) := by
  rintro t rfl hbits
  have hillegal : IllegalWord t.cmd := by
    by_contra hlegal
    obtain ⟨-, hunused, -⟩ := (not_illegalWord_iff_checks _).mp hlegal
    exact hbits hunused
  exact decode_of_illegalWord hillegal

/-- An operation code that uses no field has one legal word, the code itself. -/
theorem onlyLegalWord_setWidth {op : BitVec 4} (h : usedBits op = 0) : OnlyLegalWord (op.setWidth 32) := by
  intro t hop hne
  have hcode : opField t.cmd = op := hop.trans ((eq_setWidth_iff _ op).mp rfl).1
  refine unusedBitsIllegal op t hcode fun hunused => hne ((eq_setWidth_iff _ _).mpr ⟨hcode, ?_⟩)
  simpa [h] using hunused

/-- The word of a command whose fields are a selector and an index alone. -/
theorem assemble_pend_zero (op : BitVec 4) (msel : BitVec 3) (idx : BitVec 4) :
    assemble op msel idx 0 = op.setWidth 32 ||| msel.setWidth 32 <<< 4 ||| idx.setWidth 32 <<< 8 :=
  BitVec.or_zero

/-! ### The mode and the slot a command names -/

/-- The views that name no slot: r15, and System's r14 in a shared bank of 14 slots (R26). -/
theorem resolve_eq_none_iff (slots : BaseBankSlots) (m : Mode) (idx : BitVec 4) :
    resolve slots m idx = none ↔ idx = 15 ∨ m = .system ∧ idx = 14 ∧ slots = .fourteen := by
  revert idx
  cases slots <;> cases m <;> decide

theorem legal_of_ne_reserved {sel : ModeSel} (h : sel ≠ .reserved) : sel.legal = true := by
  cases sel with
  | reserved => exact absurd rfl h
  | _ => rfl

/-- The reserved selector faults before the NotReset check (R88, R273). -/
theorem performAs_reserved {s : State} {body : Mode → Result} (hh : s.halted = false) :
    performAs .reserved s body = .next (s.raise .illegalCommand) := by
  simp [performAs, ModeSel.pick, fail, hh]

/-- A write of one slot touches nothing outside the banks (R122). -/
theorem setSlot_eq_banks (s : State) (sl : Slot) (v : Word) :
    s.setSlot sl v = { s with
      base := (s.setSlot sl v).base, fiq := (s.setSlot sl v).fiq, svc := (s.setSlot sl v).svc,
      abt := (s.setSlot sl v).abt, irq := (s.setSlot sl v).irq, und := (s.setSlot sl v).und } := by
  cases sl <;> rfl

/-! ### RF_READ and RF_WRITE -/

/-- Settles O13: the command completes with the slot that its view names, and a view that names none faults. -/
theorem rfReadAnswersTheSelectedSlot : Obligations.RfReadAnswersTheSelectedSlot := by
  intro sel idx
  refine ⟨assemble_pend_zero _ _ _, unusedBitsIllegal 0x1, fun s m sl hs hm hsl => ?completes,
    fun s m ⟨hh, hr⟩ hm hidx => ?faults, fun hsel => ?needsReset, fun s hh => ?reserved⟩
  case completes => exact (Performs.rfRead hm hsl).exec_eq hs
  case faults =>
    have hnone : s.resolve m idx = none := (resolve_eq_none_iff _ _ _).mpr hidx
    simp only [exec, execRfRead, performAs_running hm hh hr, hnone, fail]
  case needsReset => exact needsReset_of_wellFormed (legal_of_ne_reserved hsel) nofun
  case reserved => rw [exec, execRfRead, performAs_reserved hh]

/-- Settles O14: the command completes with the slot that its view names set to the data, and a view that names none
faults. -/
theorem rfWriteWritesExactlyTheSelectedSlot : Obligations.RfWriteWritesExactlyTheSelectedSlot := by
  intro sel idx v
  refine ⟨assemble_pend_zero _ _ _, unusedBitsIllegal 0x2, fun s m sl hs hm hsl => ?completes,
    fun s m ⟨hh, hr⟩ hm hidx => ?faults, fun hsel => ?needsReset, fun s hh => ?reserved⟩
  case completes =>
    refine ⟨(s.setSlot sl v).respond .ok, (Performs.rfWrite hm hsl).exec_eq hs, ?_, fun sl' hne => ?_, ?_⟩
    · rw [State.slot_respond, State.slot_setSlot_same]
    · rw [State.slot_respond, State.slot_setSlot_ne s v hne.symm]
    · exact congrArg (State.respond · .ok) (setSlot_eq_banks s sl v)
  case faults =>
    have hnone : s.resolve m idx = none := (resolve_eq_none_iff _ _ _).mpr hidx
    simp only [exec, execRfWrite, performAs_running hm hh hr, hnone, fail]
  case needsReset => exact needsReset_of_wellFormed (legal_of_ne_reserved hsel) nofun
  case reserved => rw [exec, execRfWrite, performAs_reserved hh]

/-- Settles O47: a fault keeps every slot, and so does every other command that completes, exception entry included. -/
theorem onlyTwoCommandsWriteRegisters : Obligations.OnlyTwoCommandsWriteRegisters := by
  intro i s t sl h hrfWrite hreset
  cases exec_answers h with
  | fault => exact State.slot_raise s _ sl
  | done _ _ hp =>
    rw [State.slot_respond]
    cases hp with
    | rfWrite => exact absurd rfl (hrfWrite _ _ _)
    | reset => exact absurd rfl hreset
    | dispatch => exact State.slot_enterException s _ sl
    | _ => exact State.slot_congr rfl rfl rfl rfl rfl rfl sl

/-! ### PC_READ and PC_WRITE -/

/-- Settles O16: the operation code uses no field, and the command has no fault of its own. -/
theorem pcReadAnswersThePc : Obligations.PcReadAnswersThePc :=
  ⟨rfl, onlyLegalWord_setWidth (op := 0x3) rfl, needsReset_of_wellFormed rfl nofun,
    fun _ hs => Performs.pcRead.exec_eq hs⟩

/-- Settles O17: the operation code uses no field, and the command has no fault of its own for any data. -/
theorem pcWriteStoresAnyValue : Obligations.PcWriteStoresAnyValue := fun _ =>
  ⟨rfl, onlyLegalWord_setWidth (op := 0x4) rfl, needsReset_of_wellFormed rfl nofun,
    fun _ hs => Performs.pcWrite.exec_eq hs⟩

end Sys2Proof.Machine
end

section
/-! SUPPORT. What the status commands rest on: which modes a Mode field and a selector name, what truncation leaves of a
flag set, and what the invariant says of the CPSR; with the statements about CPSR_READ and CPSR_WRITE, SPSR_READ and
SPSR_WRITE, MODE_READ, and RUNSTATE_READ and RUNSTATE_WRITE. -/

namespace Sys2Proof.Machine

/-! ### Modes and run-states -/

/-- Every exception-capable mode owns its saved flag set (R38). -/
@[simp] theorem exc?_toMode (e : ExcMode) : e.toMode.exc? = some e := by cases e <;> rfl

/-- MODE_DEC names no mode exactly for the values outside MODE_ENC (R33). -/
theorem decodeMode_eq_none_iff (e : ModeEnc) (b : BitVec 5) :
    decodeMode e b = none ↔ ∀ m : Mode, b ≠ encodeMode e m := by
  simp [decodeMode, List.find?_eq_none, Mode.mem_all, eq_comm (a := b)]

/-- Thumb is the run-state whose bit is 1 (R41). -/
theorem toBit_eq_decide (r : RunState) : r.toBit = decide (r = .thumb) := by cases r <;> rfl

/-! ### Truncated flag sets -/

/-- A truncated flag set has no bit outside FLAG_MASK (R31). -/
theorem and_not_flagMask_of_trunc_eq {f : Word} (h : trunc f = f) : f &&& ~~~flagMask = 0 := by
  rw [← h, trunc, BitVec.and_assoc, BitVec.and_not_self]
  exact BitVec.and_zero

/-- Truncation keeps the mode that a flag set names. -/
@[simp] theorem State.flagsMode_trunc (s : State) (v : Word) : s.flagsMode (trunc v) = s.flagsMode v := by
  rw [State.flagsMode, State.flagsMode, modeField_trunc]

/-- Truncation keeps the run-state that a flag set records. -/
@[simp] theorem runStateOf_trunc (v : Word) : runStateOf (trunc v) = runStateOf v := by
  rw [runStateOf, runStateOf, thumbBit_trunc]

/-! ### The CPSR under the invariant (R150) -/

theorem State.Inv.modeField_cpsr {s : State} (h : s.Inv) (hs : s.Running) :
    modeField s.cpsr = encodeMode s.params.modeEnc s.mode :=
  (encodeMode_of_decodeMode (h.mode hs.2)).symm

theorem State.Inv.thumbBit_cpsr {s : State} (h : s.Inv) (hs : s.Running) :
    thumbBit s.cpsr = decide (s.runState = .thumb) :=
  (h.runState hs.2).trans (toBit_eq_decide _)

/-! ### CPSR_READ and CPSR_WRITE -/

/-- Settles O19: the operation code uses no field, the command has no fault of its own, and the invariant says what the
CPSR holds. -/
theorem cpsrReadAnswersTheCurrentFlags : Obligations.CpsrReadAnswersTheCurrentFlags :=
  ⟨rfl, onlyLegalWord_setWidth (op := 0x5) rfl, needsReset_of_wellFormed rfl nofun,
    fun _ hs => Performs.cpsrRead.exec_eq hs,
    fun _ hs hinv => ⟨and_not_flagMask_of_trunc_eq (hinv.flags hs.2).1, hinv.modeField_cpsr hs,
      hinv.thumbBit_cpsr hs⟩⟩

/-- Settles O20: truncation keeps the Mode field and the T bit, so the command loads the flags with the mode and the
run-state that the data name, and faults for data that name no mode. -/
theorem cpsrWriteSetsFlagsModeAndRunState : Obligations.CpsrWriteSetsFlagsModeAndRunState := by
  intro v
  refine ⟨rfl, onlyLegalWord_setWidth (op := 0x6) rfl, needsReset_of_wellFormed rfl nofun,
    fun s m hs hp hm => ?completes, fun s ⟨hh, hr⟩ hm => ?faults⟩
  case completes =>
    have hmode : s.flagsMode v = some m :=
      (congrArg (decodeMode s.params.modeEnc) hm).trans (decodeMode_encodeMode hp m)
    rw [(Performs.cpsrWrite ((s.flagsMode_trunc v).trans hmode)).exec_eq hs, State.loadFlags, runStateOf_trunc]
    rfl
  case faults =>
    have hmode : s.flagsMode v = none := (decodeMode_eq_none_iff _ _).mpr hm
    simp only [exec, execCpsrWrite, perform_running hh hr, State.flagsMode_trunc, hmode, fail]

/-! ### SPSR_READ and SPSR_WRITE -/

/-- The word of a command whose one field is a selector. -/
theorem assemble_idx_pend_zero (op : BitVec 4) (msel : BitVec 3) :
    assemble op msel 0 0 = op.setWidth 32 ||| msel.setWidth 32 <<< 4 :=
  (assemble_pend_zero op msel 0).trans BitVec.or_zero

/-- Settles O21: the command completes with a saved flag set that has been written; System has none and an unwritten one
cannot be read. -/
theorem spsrReadAnswersAWrittenFlagSet : Obligations.SpsrReadAnswersAWrittenFlagSet := by
  intro sel
  refine ⟨assemble_idx_pend_zero _ _, unusedBitsIllegal 0x7, fun s e hs hm hv => ?completes,
    fun s ⟨hh, hr⟩ hm => ?system, fun s e ⟨hh, hr⟩ hm hv => ?unwritten, fun hsel => ?needsReset,
    fun s hh => ?reserved⟩
  case completes => exact (Performs.spsrRead hm (exc?_toMode e) hv).exec_eq hs
  case system => simp only [exec, execSpsrRead, performAs_running hm hh hr, Mode.exc?, fail]
  case unwritten =>
    simp only [exec, execSpsrRead, performAs_running hm hh hr, exc?_toMode, hv, Bool.false_eq_true, if_false, fail]
  case needsReset => exact needsReset_of_wellFormed (legal_of_ne_reserved hsel) nofun
  case reserved => rw [exec, execSpsrRead, performAs_reserved hh]

/-- Settles O22: the command completes with one saved flag set and its validity written, whatever its Mode field, and
System has none. -/
theorem spsrWriteStoresTruncatedFlags : Obligations.SpsrWriteStoresTruncatedFlags := by
  intro sel v
  refine ⟨assemble_idx_pend_zero _ _, unusedBitsIllegal 0x8, fun s e hs hm => ?completes,
    fun s ⟨hh, hr⟩ hm => ?system, fun hsel => ?needsReset, fun s hh => ?reserved⟩
  case completes =>
    exact ⟨(s.saveFlags e (trunc v)).respond .ok, (Performs.spsrWrite hm (exc?_toMode e)).exec_eq hs, rfl,
      PerExc.get_set_same _ _ _, PerExc.get_set_same _ _ _,
      fun e' hne => ⟨PerExc.get_set_ne _ _ hne.symm, PerExc.get_set_ne _ _ hne.symm⟩⟩
  case system => simp only [exec, execSpsrWrite, performAs_running hm hh hr, Mode.exc?, fail]
  case needsReset => exact needsReset_of_wellFormed (legal_of_ne_reserved hsel) nofun
  case reserved => rw [exec, execSpsrWrite, performAs_reserved hh]

/-! ### MODE_READ, RUNSTATE_READ and RUNSTATE_WRITE -/

/-- A read that changes nothing else answers its word however the word is written. -/
theorem Performs.exec_okData {i : Instr} {s : State} {v w : Word} (hp : Performs i s s (.okData v))
    (hs : s.Running) (h : v = w) : exec i s = .next (s.respond (.okData w)) :=
  h ▸ hp.exec_eq hs

/-- Settles O23: the command answers the mode index, mode by mode the number of R154. -/
theorem modeReadAnswersTheModeIndex : Obligations.ModeReadAnswersTheModeIndex := by
  refine ⟨rfl, onlyLegalWord_setWidth (op := 0x9) rfl, needsReset_of_wellFormed rfl nofun,
    fun s hs hinv => hinv.modeField_cpsr hs, fun s hs => ?_⟩
  refine Performs.modeRead.exec_okData hs ?_
  cases s.mode <;> rfl

/-- Settles O24: the command answers the run-state's bit, which under the invariant is the CPSR's T bit. -/
theorem runstateReadAnswersTheRunState : Obligations.RunstateReadAnswersTheRunState := by
  refine ⟨rfl, onlyLegalWord_setWidth (op := 0xA) rfl, needsReset_of_wellFormed rfl nofun,
    fun s hs hinv => hinv.thumbBit_cpsr hs, fun s hs => ?_⟩
  refine Performs.runstateRead.exec_okData hs ?_
  simp only [toBit_eq_decide, decide_eq_true_eq]

/-- Settles O25: the decoder reads bit 0 of the data alone, and the command replaces the T bit and the tag. -/
theorem runstateWriteSetsOnlyTheTBit : Obligations.RunstateWriteSetsOnlyTheTBit :=
  ⟨onlyLegalWord_setWidth (op := 0xB) rfl, fun _ => decode_of_instrOf (by decide) rfl,
    fun r => ⟨needsReset_of_wellFormed rfl nofun, fun s hs => ⟨setThumbBit s.cpsr r,
      Performs.runstateWrite.exec_eq hs, (thumbBit_setThumbBit s.cpsr r).trans (toBit_eq_decide r),
      fun i hi => (getLsbD_setThumbBit s.cpsr r i).trans (if_neg hi)⟩⟩⟩

end Sys2Proof.Machine
end

section
/-! SUPPORT. Exception entry, return and RESET as whole next states: entry written out as one update, a return to a good
block's flags, and the reset state as a fixed point; with the statements about DISPATCH, EXC_RETURN and RESET. -/

namespace Sys2Proof.Machine

/-! ### Exception entry (R182) -/

/-- Entry as one update of the state (R182 steps 1 to 4 and 6). -/
theorem enterException_eq (s : State) (k : Kind) :
    s.enterException k = { s with
      spsr := if k = .reset then s.spsr else s.spsr.set (descriptor k).mode s.cpsr
      spsrValid := if k = .reset then s.spsrValid else s.spsrValid.set (descriptor k).mode true
      mode := (descriptor k).mode.toMode
      cpsr := entryFlags s.params (descriptor k) s.cpsr
      runState := .arm
      pc := s.params.vectorBase + (descriptor k).offset } := by
  by_cases hk : k = .reset
  · subst hk; rfl
  · rw [State.enterException, saveOnEntry_of_ne hk, if_neg hk, if_neg hk]; rfl

/-- The flags of an entry as masks: clearing T adds no bit. -/
theorem entryFlags_eq_masks (p : Params) (d : Descriptor) (f : Word) :
    entryFlags p d f =
      ((f ||| (if d.forceI then irqDisableMask else 0) ||| (if d.forceF then fiqDisableMask else 0)) &&& ~~~modeMask |||
        (encodeMode p.modeEnc d.mode.toMode).setWidth 32) &&& ~~~thumbMask :=
  BitVec.or_zero

/-- A Mode field put in its place does not reach the T bit: clearing T with it replaces the low six bits. -/
theorem modeField_or_and_not_thumbMask (f : Word) (b : BitVec 5) :
    (f &&& ~~~modeMask ||| b.setWidth 32) &&& ~~~thumbMask =
      f &&& (~~~modeMask &&& ~~~thumbMask) ||| b.setWidth 32 := by
  have hfield : ~~~thumbMask &&& b.setWidth 32 = b.setWidth 32 := by revert b; decide
  rw [BitVec.and_comm, BitVec.and_or_distrib_left, hfield, BitVec.and_comm, BitVec.and_assoc]

/-- Entry of the Reset kind sets I and F and replaces the low six bits (R184). -/
theorem entryFlags_reset_eq_masks (p : Params) (f : Word) :
    entryFlags p (descriptor .reset) f =
      (f ||| 0x000000C0) &&& ~~~0x0000003F ||| (encodeMode p.modeEnc .supervisor).setWidth 32 := by
  rw [entryFlags_eq_masks, modeField_or_and_not_thumbMask, BitVec.or_assoc f]
  rfl

/-! ### The selection (R250) -/

/-- No kind comes before Reset, whose priority is 1 (R241). -/
theorem keepUrgent_reset (k : Kind) : keepUrgent (some .reset) k = some .reset := by
  cases k <;> rfl

/-- A pending Reset is selected whatever else is pending (R184). -/
theorem select_of_reset_pending {pend : BitVec 8} (h : pend.getLsbD 0 = true) : select pend = some .reset := by
  have hpending : isPending pend .reset = true := h
  rw [select, Kind.all, List.filter_cons_of_pos hpending]
  exact List.foldl_fixed' keepUrgent_reset _

/-! ### DISPATCH -/

/-- Settles O29: the selected kind is entered, for whose next state `enterException_eq` accounts field by field, and
nothing selected faults. -/
theorem dispatchEntersTheSelectedKind : Obligations.DispatchEntersTheSelectedKind := by
  intro pend
  refine ⟨rfl, unusedBitsIllegal 0xC, needsReset_of_wellFormed rfl nofun, fun hpend s ⟨hh, hr⟩ => ?empty,
    fun s k hs hk => ?enters⟩
  case empty =>
    have hnone : select pend = none := by rw [hpend]; rfl
    simp only [exec, execDispatch, perform_running hh hr, hnone, fail]
  case enters =>
    rw [(Performs.dispatch hk).exec_eq hs, enterException_eq, entryFlags_eq_masks]
    rfl

/-- Settles O30: a pending Reset is selected, and its entry saves nothing. -/
theorem dispatchOfResetIsNoReset : Obligations.DispatchOfResetIsNoReset := by
  intro s pend hs hpend
  have hpc : s.params.vectorBase + (descriptor .reset).offset = s.params.vectorBase := BitVec.add_zero _
  rw [(Performs.dispatch (select_of_reset_pending hpend)).exec_eq hs, enterException_eq, entryFlags_reset_eq_masks, hpc]
  rfl

/-- Settles O33: DISPATCH reads its pending vector through the selection alone. -/
theorem unselectedKindsLeaveNoTrace : Obligations.UnselectedKindsLeaveNoTrace := by
  intro s p q h
  simp only [exec, execDispatch, h]

/-! ### Saved flag sets and the CPSR under the invariant -/

/-- Every exception-capable mode is in the list of them. -/
theorem ExcMode.mem_all (e : ExcMode) : e ∈ ExcMode.all := by cases e <;> decide

/-- A saved flag set that can be read is truncated (R34). -/
theorem State.Inv.trunc_spsr {s : State} (h : s.Inv) (hs : s.Running) {e : ExcMode}
    (hv : s.spsrValid.get e = true) : trunc (s.spsr.get e) = s.spsr.get e :=
  (h.flags hs.2).2 e (ExcMode.mem_all e) hv

/-- The CPSR of a good block records its run-state (R36). -/
theorem State.Inv.runStateOf_cpsr {s : State} (h : s.Inv) (hs : s.Running) : runStateOf s.cpsr = s.runState := by
  rw [runStateOf, h.runState hs.2, ofBit_toBit]

/-- The mode that a flag set names depends on the parameters alone. -/
theorem State.flagsMode_congr {s t : State} (h : t.params = s.params) (f : Word) : t.flagsMode f = s.flagsMode f := by
  rw [State.flagsMode, h, State.flagsMode]

/-! ### EXC_RETURN -/

/-- Where EXC_RETURN completes, three commands leave the same state but for the responses (R186): the saved flag set is
truncated, so CPSR_WRITE loads it as it is. -/
theorem Performs.excReturn_as_three {s u : State} {v : Word} {r : Response} (hp : Performs (.excReturn v) s u r)
    (h : s.Inv) (hs : s.Running) :
    ∃ (f : Word) (a b c : State),
      exec (.spsrRead .current) s = .next a ∧ a.responses = .okData f :: s.responses ∧
      exec (.cpsrWrite f) a = .next b ∧ exec (.pcWrite v) b = .next c ∧
      c = { u with responses := .ok :: .ok :: .okData f :: s.responses } := by
  cases hp with
  | @excReturn _ _ e m he hv hm =>
    have htrunc : trunc (s.spsr.get e) = s.spsr.get e := h.trunc_spsr hs hv
    have hwrite : Performs (.cpsrWrite (s.spsr.get e)) (s.respond (.okData (s.spsr.get e))) _ .ok :=
      .cpsrWrite ((State.flagsMode_trunc _ _).trans hm)
    refine ⟨s.spsr.get e, _, _, _, (Performs.spsrRead rfl he hv).exec_eq hs, rfl, hwrite.exec_eq hs,
      Performs.pcWrite.exec_eq hs, ?_⟩
    rw [htrunc]
    rfl

/-- Settles O34: the command completes with the saved flag set of the current mode, and each fault is one of the guards
that its meaning checks in this order. -/
theorem excReturnRestoresTheSavedFlags : Obligations.ExcReturnRestoresTheSavedFlags := by
  intro v
  refine ⟨rfl, onlyLegalWord_setWidth (op := 0xD) rfl, needsReset_of_wellFormed rfl nofun,
    fun s e m hs hp he hv hm => ?completes, fun s ⟨hh, hr⟩ hsys => ?system,
    fun s e ⟨hh, hr⟩ he hv => ?unwritten, fun s e ⟨hh, hr⟩ he hv hm => ?noMode,
    fun s t h hs ht hhalt => ?composition⟩
  case completes =>
    have hmode : s.flagsMode (s.spsr.get e) = some m :=
      (congrArg (decodeMode s.params.modeEnc) hm).trans (decodeMode_encodeMode hp m)
    exact (Performs.excReturn (he ▸ exc?_toMode e) hv hmode).exec_eq hs
  case system => simp only [exec, execExcReturn, perform_running hh hr, hsys, Mode.exc?, fail]
  case unwritten =>
    simp only [exec, execExcReturn, perform_running hh hr, he, exc?_toMode, hv, Bool.false_eq_true, if_false, fail]
  case noMode =>
    have hmode : s.flagsMode (s.spsr.get e) = none := (decodeMode_eq_none_iff _ _).mpr hm
    simp only [exec, execExcReturn, perform_running hh hr, he, exc?_toMode, hv, if_true, hmode, fail]
  case composition =>
    cases exec_answers ht with
    | fault => cases hhalt
    | done _ _ hpart => exact hpart.excReturn_as_three h hs

/-! ### An exception taken and returned from -/

/-- DISPATCH leaves a running block under the invariant in the same condition. -/
theorem State.Inv.dispatched {s : State} (h : s.Inv) (hs : s.Running) (k : Kind) (r : Response) :
    ((s.enterException k).respond r).Inv ∧ ((s.enterException k).respond r).Running :=
  ⟨(h.enterException k).respond r, by simpa [State.Running] using hs⟩

/-- Entry of a kind but Reset leaves the interrupted CPSR in the entry mode's saved flag set, readable (R182 step 1). -/
theorem saved_enterException {s : State} {k : Kind} (hk : k ≠ .reset) :
    (s.enterException k).spsr.get (descriptor k).mode = s.cpsr ∧
      (s.enterException k).spsrValid.get (descriptor k).mode = true := by
  simp [saveOnEntry_of_ne hk]

/-- EXC_RETURN in a handler `t` whose saved flag set holds the CPSR of a good block `s` gives back the mode, the CPSR
and the run-state of `s` (R258), because the Mode field and the T bit of that CPSR name them. -/
theorem State.Inv.exec_excReturn {s t : State} {e : ExcMode} (h : s.Inv) (hs : s.Running) (ht : t.Running) (v : Word)
    (hp : t.params = s.params) (he : t.mode = e.toMode) (hsaved : t.spsr.get e = s.cpsr ∧ t.spsrValid.get e = true) :
    exec (.excReturn v) t = .next { t with
      cpsr := s.cpsr, mode := s.mode, runState := s.runState, pc := v, responses := .ok :: t.responses } := by
  obtain ⟨hcpsr, hvalid⟩ := hsaved
  have hnames : t.flagsMode (t.spsr.get e) = some s.mode := by
    rw [hcpsr, State.flagsMode_congr hp]
    exact h.mode hs.2
  rw [← h.runStateOf_cpsr hs, ← hcpsr]
  exact (Performs.excReturn (he ▸ exc?_toMode e) hvalid hnames).exec_eq ht

/-- Settles O35: entry saves the interrupted CPSR, and return gives back what it records. -/
theorem dispatchThenReturnRestoresTheState : Obligations.DispatchThenReturnRestoresTheState := by
  intro s pend k v h hs hk hne
  obtain ⟨-, hrunning⟩ := h.dispatched hs k (.okDispatch s.pc k)
  refine ⟨_, _, (Performs.dispatch hk).exec_eq hs,
    h.exec_excReturn hs hrunning v (s.enterException_params k) rfl (saved_enterException hne), ?_⟩
  rw [enterException_eq, if_neg hne, if_neg hne]
  rfl

/-- Settles O36: the inner round trip writes the inner kind's saved flag set alone, so the outer kind's still holds the
interrupted CPSR when the second return loads it. -/
theorem nestedExceptionsReturnInTurn : Obligations.NestedExceptionsReturnInTurn := by
  intro s p q j k v w h hs hj hk hjne hkne hmodes
  obtain ⟨hinv, hrunning⟩ := h.dispatched hs j (.okDispatch s.pc j)
  obtain ⟨b, c, hb, hc, rfl⟩ := dispatchThenReturnRestoresTheState _ q k v hinv hrunning hk hkne
  refine ⟨_, b, _, _, (Performs.dispatch hj).exec_eq hs, hb, hc,
    h.exec_excReturn hs ?running w ?params rfl ?saved, rfl, rfl, rfl, ?state⟩
  case running => exact hrunning
  case params => exact s.enterException_params j
  case saved =>
    rw [PerExc.get_set_ne _ _ hmodes.symm, PerExc.get_set_ne _ _ hmodes.symm]
    exact saved_enterException hjne
  case state =>
    rw [enterException_eq]
    rfl

/-! ### RESET -/

/-- The reset flag set lies inside FLAG_MASK (R43). -/
theorem resetFlags_eq (p : Params) :
    resetFlags p = irqDisableMask ||| fiqDisableMask ||| (encodeMode p.modeEnc .supervisor).setWidth 32 := by
  have hfield (b : BitVec 5) : trunc (b.setWidth 32) = b.setWidth 32 := by revert b; decide
  rw [resetFlags, trunc_or, hfield]
  rfl

/-- RESET of a state that RESET left changes nothing (R190). -/
theorem resetBlock_respond_resetBlock (s : State) (r : Response) :
    (s.resetBlock.respond r).resetBlock = s.resetBlock.respond r := by
  rw [resetBlock_eq (s.resetBlock.respond r), resetBlock_eq s]
  rfl

/-- Only a block that is not halted answers a next state (R271). -/
theorem Answers.not_halted {i : Instr} {s t : State} (h : Answers i s t) : s.halted = false := by
  cases h with
  | fault hh => exact hh
  | done hh => exact hh

/-- Settles O38: RESET has no fault of its own, `resetBlock_eq` says what it leaves, and that is a fixed point. -/
theorem resetGivesTheResetState : Obligations.ResetGivesTheResetState := by
  refine ⟨rfl, onlyLegalWord_setWidth (op := 0xE) rfl, fun s t h => ?idempotent, fun s hh => ?state⟩
  case idempotent =>
    have hh : s.halted = false := (exec_answers h).not_halted
    cases h.symm.trans (exec_reset hh)
    exact (exec_reset (s := s.resetBlock.respond .ok) hh).trans
      (congrArg (complete · .ok) (resetBlock_respond_resetBlock s .ok))
  case state =>
    rw [exec_reset hh, resetBlock_eq, State.resetWith, resetFlags_eq]
    rfl

end Sys2Proof.Machine
end

section
/-! SUPPORT. The priority mux as the minimum of an urgency key over the pending kinds; with the statements about the
descriptor table, the vectors, the mux and the driver's masking. -/

namespace Sys2Proof.Machine

/-! ### The kinds -/

/-- Every kind is in the list of kinds. -/
theorem Kind.mem_all (k : Kind) : k ∈ Kind.all := by cases k <;> decide

/-- Every bit of a pending vector stands for a kind (R87). -/
theorem exists_kind_of_index : ∀ i < 8, ∃ k ∈ Kind.all, k.index.toNat = i := by decide

theorem forall_not_isPending_iff (pend : BitVec 8) : (∀ k, isPending pend k = false) ↔ pend = 0 := by
  refine ⟨fun h => BitVec.eq_of_getLsbD_eq fun i hi => ?_, ?_⟩
  · obtain ⟨k, -, rfl⟩ := exists_kind_of_index i hi
    exact (h k).trans BitVec.getLsbD_zero.symm
  · rintro rfl k
    exact BitVec.getLsbD_zero

/-! ### The selection as a minimum (R250) -/

/-- The pair (priority, kind index) of R250, in lexicographic order: the less, the more urgent. -/
def urgency (k : Kind) : ℕ ×ₗ ℕ := toLex ((descriptor k).priority, k.index.toNat)

theorem moreUrgent_iff (a b : Kind) : moreUrgent a b = true ↔ urgency a < urgency b := by
  simp [moreUrgent, urgency, Prod.Lex.toLex_lt_toLex, BitVec.lt_def]

theorem urgency_injective {a b : Kind} (h : urgency a = urgency b) : a = b :=
  List.inj_on_of_nodup_map (f := urgency) (by decide) (Kind.mem_all a) (Kind.mem_all b) h

/-- The mux is the library's minimum of a list by a key. -/
theorem select_eq_argmin (pend : BitVec 8) : select pend = (Kind.all.filter (isPending pend)).argmin urgency := by
  have hkeep : keepUrgent = List.argAux fun a b => urgency a < urgency b := by
    funext best k
    cases best with
    | none => rfl
    | some b => exact if_congr (moreUrgent_iff k b) rfl rfl
  rw [select, hkeep]
  rfl

theorem select_eq_none_iff {pend : BitVec 8} : select pend = none ↔ pend = 0 := by
  rw [select_eq_argmin, List.argmin_eq_none, List.filter_eq_nil_iff, ← forall_not_isPending_iff]
  simp [Kind.mem_all]

theorem isPending_of_select {pend : BitVec 8} {k : Kind} (h : select pend = some k) : isPending pend k = true := by
  rw [select_eq_argmin] at h
  exact (List.mem_filter.mp (List.argmin_mem h)).2

theorem urgency_le_of_select {pend : BitVec 8} {k j : Kind} (h : select pend = some k)
    (hj : isPending pend j = true) : urgency k ≤ urgency j := by
  rw [select_eq_argmin] at h
  exact List.le_of_mem_argmin (List.mem_filter.mpr ⟨Kind.mem_all j, hj⟩) h

/-- A pending kind that no pending kind precedes is the one selected: no two kinds have one urgency (R251). -/
theorem select_eq_some_of_minimal {pend : BitVec 8} {k : Kind} (hk : isPending pend k = true)
    (hmin : ∀ j, isPending pend j = true → urgency k ≤ urgency j) : select pend = some k := by
  cases hs : select pend with
  | none =>
    have hnone := (forall_not_isPending_iff pend).mpr (select_eq_none_iff.mp hs) k
    cases hk.symm.trans hnone
  | some m =>
    have heq : urgency m = urgency k := (urgency_le_of_select hs hk).antisymm (hmin m (isPending_of_select hs))
    rw [urgency_injective heq]

/-! ### The selection as a scan (R252) -/

/-- The total order of R252, most urgent first. -/
def urgencyOrder : List Kind :=
  [.reset, .dataAbort, .addressExceeds26bit, .fastInterrupt, .normalInterrupt, .prefetchAbort, .softwareInterrupt,
    .undefinedInstruction]

theorem mem_urgencyOrder (k : Kind) : k ∈ urgencyOrder := by cases k <;> decide

theorem urgencyOrder_sorted : urgencyOrder.Pairwise fun a b => urgency a ≤ urgency b := by decide

/-- The first pending kind of a list sorted by urgency is the minimum: those before it are not pending, and those after
it are less urgent. -/
theorem select_eq_scan (pend : BitVec 8) : select pend = urgencyOrder.find? (isPending pend) := by
  cases hscan : urgencyOrder.find? (isPending pend) with
  | none =>
    rw [select_eq_none_iff, ← forall_not_isPending_iff]
    exact fun k => Bool.eq_false_iff.mpr (List.find?_eq_none.mp hscan k (mem_urgencyOrder k))
  | some k =>
    obtain ⟨hk, before, after, horder, hbefore⟩ := List.find?_eq_some_iff_append.mp hscan
    have hsorted := horder ▸ urgencyOrder_sorted
    refine select_eq_some_of_minimal hk fun j hj => ?_
    have hmem : j ∈ before ∨ j = k ∨ j ∈ after := by simpa [horder] using mem_urgencyOrder j
    obtain hj' | rfl | hj' := hmem
    · exact absurd hj (by simpa using hbefore j hj')
    · exact le_rfl
    · exact (List.pairwise_cons.mp (List.pairwise_append.mp hsorted).2.1).1 j hj'

/-! ### The statements -/

/-- Settles O28: the scan and the minimum are the two readings of the selection proved above. -/
theorem priorityMuxIsTheFixedOrderScan : Obligations.PriorityMuxIsTheFixedOrderScan := by
  intro pend
  refine ⟨select_eq_scan pend, select_eq_none_iff, fun k hk j hj => ?_⟩
  exact Prod.Lex.toLex_le_toLex.mp (urgency_le_of_select hk hj)

/-- Settles O26: the table is computed row by row. -/
theorem descriptorTableRows : Obligations.DescriptorTableRows := ⟨by decide, Kind.mem_all⟩

/-- Settles O27: the eight addresses are computed, and entry writes base plus offset to the pc. -/
theorem defaultVectorAddresses : Obligations.DefaultVectorAddresses := ⟨by decide, State.enterException_pc⟩

/-! ### DISPATCH and the interrupt-disable bits (R253) -/

/-- Settles O32: the selection reads the pending vector alone, and of what entry writes only the CPSR and the saved
flags depend on the CPSR. -/
theorem dispatchReadsNoDisableBit : Obligations.DispatchReadsNoDisableBit := by
  intro s f pend hs hpend
  obtain ⟨k, hk⟩ := Option.ne_none_iff_exists'.mp (mt select_eq_none_iff.mp hpend)
  exact ⟨k, _, _, (Performs.dispatch hk).exec_eq hs, (Performs.dispatch hk).exec_eq (s := { s with cpsr := f }) hs,
    by simp, by simp, rfl, rfl, isPending_of_select hk⟩

/-- Duty 1 leaves out a masked NormalInterrupt and a masked FastInterrupt and nothing else (R305). -/
theorem isPending_unmaskedPend (f : Word) (pend : BitVec 8) (k : Kind) :
    isPending (unmaskedPend f pend) k =
      (isPending pend k && (!(irqDisable f && decide (k = .normalInterrupt)) &&
        !(fiqDisable f && decide (k = .fastInterrupt)))) := by
  rw [isPending, unmaskedPend, BitVec.getLsbD_and]
  congr 1
  cases irqDisable f <;> cases fiqDisable f <;> cases k <;> rfl

/-- Settles O58: what is dispatched is not empty, so a kind of it is selected, and that kind passed the mask. -/
theorem dutifulDriverTakesNoMaskedInterrupt : Obligations.DutifulDriverTakesNoMaskedInterrupt := by
  intro f pend p h
  simp only [dutifulDispatch, Option.ite_none_left_eq_some, Option.some.injEq, Instr.dispatch.injEq] at h
  obtain ⟨hne, rfl⟩ := h
  obtain ⟨k, hk⟩ := Option.ne_none_iff_exists'.mp (mt select_eq_none_iff.mp hne)
  have hpending := isPending_of_select hk
  rw [isPending_unmaskedPend] at hpending
  simp only [Bool.and_eq_true, Bool.not_eq_true', Bool.and_eq_false_iff, decide_eq_false_iff_not] at hpending
  obtain ⟨hpend, hI, hF⟩ := hpending
  exact ⟨k, hk, hpend, fun h => hI.resolve_right (not_not_intro h), fun h => hF.resolve_right (not_not_intro h)⟩

/-! ### The flags of an entry, bit by bit (R182) -/

/-- Entry ORs the forced disable bits into the bits above T. -/
theorem getLsbD_entryFlags_of_ge_six (p : Params) (d : Descriptor) (f : Word) {i : Nat} (h : 6 ≤ i) :
    (entryFlags p d f).getLsbD i =
      (f.getLsbD i || d.forceI && decide (7 = i) || d.forceF && decide (6 = i)) := by
  rw [entryFlags, getLsbD_setThumbBit, if_neg (by omega), getLsbD_setModeField, if_neg (by omega),
    BitVec.getLsbD_or, BitVec.getLsbD_or]
  cases d.forceI <;> cases d.forceF <;> simp [getLsbD_irqDisableMask, getLsbD_fiqDisableMask]

theorem irqDisable_entryFlags (p : Params) (d : Descriptor) (f : Word) :
    irqDisable (entryFlags p d f) = (irqDisable f || d.forceI) := by
  simp [irqDisable, getLsbD_entryFlags_of_ge_six, -BitVec.getLsbD_eq_getElem]

theorem fiqDisable_entryFlags (p : Params) (d : Descriptor) (f : Word) :
    fiqDisable (entryFlags p d f) = (fiqDisable f || d.forceF) := by
  simp [fiqDisable, getLsbD_entryFlags_of_ge_six, -BitVec.getLsbD_eq_getElem]

/-- Every kind forces I (R242). -/
theorem descriptor_forceI (k : Kind) : (descriptor k).forceI = true := by cases k <;> rfl

/-- Reset and FastInterrupt alone force F (R242). -/
theorem descriptor_forceF (k : Kind) : (descriptor k).forceF = decide (k = .reset ∨ k = .fastInterrupt) := by
  cases k <;> rfl

/-- Settles O31, field by field of the entry's flags. -/
theorem entryFlagsBitByBit : Obligations.EntryFlagsBitByBit := by
  intro s k
  rw [State.enterException_cpsr]
  refine ⟨?_, ?_, thumbBit_entryFlags _ _ _, modeField_entryFlags _ _ _,
    fun _ hi => getLsbD_entryFlags_of_ge _ _ _ hi⟩
  · rw [irqDisable_entryFlags, descriptor_forceI, Bool.or_true]
  · rw [fiqDisable_entryFlags, descriptor_forceF]

end Sys2Proof.Machine
end

section
/-! SUPPORT. The fault record: a halted block stops, every other block steps, and a step that answers either keeps the
record or raises one fault and changes nothing else; with the statements about halting. -/

namespace Sys2Proof.Machine

/-! ### A block that is not halted always steps (R271) -/

section
variable {s : State} (hh : s.halted = false)
include hh

theorem perform_exists_next {body : Result} (hb : ∃ t, body = .next t) : ∃ t, perform s body = .next t := by
  cases hr : s.resetDone with
  | false => exact ⟨_, perform_notReset hh hr⟩
  | true => rwa [perform_running hh hr]

theorem performAs_exists_next {sel : ModeSel} {body : Mode → Result} (hb : ∀ m, ∃ t, body m = .next t) :
    ∃ t, performAs sel s body = .next t := by
  cases sel with
  | mode m => exact perform_exists_next hh (hb m)
  | reserved => exact ⟨_, performAs_reserved hh⟩
  | current => exact perform_exists_next hh (hb s.mode)

/-- A block that is not halted answers every command: each branch of a command's own part completes or fails. -/
theorem exec_exists_next (i : Instr) : ∃ t, exec i s = .next t := by
  cases i with
  | rfRead | rfWrite | spsrWrite => exact performAs_exists_next hh fun m => by split <;> exact ⟨_, rfl⟩
  | spsrRead => exact performAs_exists_next hh fun m => by (repeat' split) <;> exact ⟨_, rfl⟩
  | cpsrWrite | dispatch => exact perform_exists_next hh (by split <;> exact ⟨_, rfl⟩)
  | excReturn => exact perform_exists_next hh (by (repeat' split) <;> exact ⟨_, rfl⟩)
  | reset => exact ⟨_, exec_reset hh⟩
  | _ => exact perform_exists_next hh ⟨_, rfl⟩

end

/-- While the driver presents nothing, a block that is not halted waits (log entry 2). -/
theorem step_of_driver_nil {s : State} (hh : s.halted = false) (hd : s.driver = []) : step s = .next s := by
  simp [step, State.nextTransaction, hh, hd]

/-! ### What a step does to the fault record (R270) -/

/-- A command that completes leaves the fault record alone. -/
theorem Performs.faultRecord {i : Instr} {s u : State} {r : Response} (h : Performs i s u r) :
    u.halted = s.halted ∧ u.faultCode = s.faultCode := by
  cases h <;> simp

/-- A step leaves the block unhalted with the fault code it had, or takes a transaction and raises a fault, which is
never DispatchConflict. -/
theorem step_faultRecord {s s' : State} (h : step s = .next s') :
    (s'.halted = false ∧ s'.faultCode = s.faultCode) ∨
      ∃ t rest c, s.driver = t :: rest ∧ c ∉ [FaultCode.none, .dispatchConflict] ∧
        s' = { s with driver := rest }.raise c := by
  obtain ⟨hh, ⟨-, rfl⟩ | ⟨t, rest, hd, ⟨e, -, rfl⟩ | ⟨i, -, ha⟩⟩⟩ := step_cases h
  · exact .inl ⟨hh, rfl⟩
  · exact .inr ⟨t, rest, _, hd, by decide, rfl⟩
  · cases ha with
    | fault _ hc => exact .inr ⟨t, rest, _, hd, hc, rfl⟩
    | done _ _ hp =>
      obtain ⟨hhalted, hcode⟩ := hp.faultRecord
      exact .inl ⟨hhalted.trans hh, hcode⟩

/-! ### The statements -/

/-- Settles O8: the step's own check and each command's answer the same stop. -/
theorem haltedBlockHasNoStep : Obligations.HaltedBlockHasNoStep :=
  fun _ hh => ⟨if_pos hh, exec_of_halted hh⟩

/-- Settles O11: with nothing presented the block waits; an illegal word faults, and a command answers. -/
theorem onlyHaltedBlocksStop : Obligations.OnlyHaltedBlocksStop := by
  intro s hh
  cases hd : s.driver with
  | nil => exact ⟨s, step_of_driver_nil hh hd⟩
  | cons t rest =>
    cases hi : decode t with
    | error e => exact ⟨_, step_of_decode_error hh hd hi⟩
    | ok i =>
      rw [stepPerformsTheNextCommand s t rest i hd hi]
      exact exec_exists_next (s := { s with driver := rest }) hh i

/-- Settles O49: a step that leaves the block halted raised a fault. -/
theorem faultingStepChangesOnlyTheFaultRecord : Obligations.FaultingStepChangesOnlyTheFaultRecord := by
  intro s s' t rest hd h hhalted
  obtain ⟨hh, -⟩ | ⟨t₁, rest₁, c, hd₁, hc, rfl⟩ := step_faultRecord h
  · cases hhalted.symm.trans hh
  · cases hd.symm.trans hd₁
    exact ⟨c, List.ne_of_not_mem_cons hc, rfl⟩

/-- Settles O50: a step that changes the fault code raises one of the others. -/
theorem dispatchConflictIsNeverRaised : Obligations.DispatchConflictIsNeverRaised := by
  intro s s' h hconflict
  obtain ⟨-, hcode⟩ | ⟨t, rest, c, -, hc, rfl⟩ := step_faultRecord h
  · exact hcode.symm.trans hconflict
  · cases hconflict
    exact absurd hc (by decide)

end Sys2Proof.Machine
end

section
/-! SUPPORT. Re-entry into an entry mode, the wait for a command, the values RESET leaves and the fault codes' numbers. -/

namespace Sys2Proof.Machine

/-- Zeroed banks are the reset state's own, so every slot of it reads 0 (R43). -/
theorem State.slot_resetWith (p : Params) (sl : Slot) : (State.resetWith p).slot sl = 0 :=
  (State.resetWith p).slot_zeroBanks sl

/-- The reset state has no readable saved flag set (R43). -/
theorem State.spsrValid_resetWith (p : Params) (m : ExcMode) : (State.resetWith p).spsrValid.get m = false := by
  cases m <;> rfl

/-- Settles O37: the first entry leaves the block running, and the second saves the CPSR it finds, whatever the saved flag
set of its entry mode held before. That the two entry modes agree decides only that the first one's save is lost. -/
theorem reentryOverwritesTheSavedFlags : Obligations.ReentryOverwritesTheSavedFlags := by
  intro s p q j k hs hj hk hkne _
  have hrunning : ((s.enterException j).respond (.okDispatch s.pc j)).Running := by
    simpa [State.Running] using hs
  exact ⟨_, _, (Performs.dispatch hj).exec_eq hs, (Performs.dispatch hk).exec_eq hrunning, saved_enterException hkne⟩

/-- Settles O9: the step waits. -/
theorem noCommandNoChange : Obligations.NoCommandNoChange := fun _ => step_of_driver_nil

/-- Settles O39: `resetBlock_eq` says what RESET leaves, and the default parameters are put into it for the last line. -/
theorem resetStateValues : Obligations.ResetStateValues := by
  refine ⟨fun s hh => ⟨_, exec_reset hh, ?left⟩, State.slot_resetWith,
    fun p => ⟨rfl, rfl, State.spsrValid_resetWith p, rfl, rfl, rfl⟩, rfl, rfl, by decide⟩
  case left =>
    rw [resetBlock_eq, hh]
    rfl

/-- Settles O51: the numbers of R272, code by code. -/
theorem faultCodeNumbers : Obligations.FaultCodeNumbers := rfl

end Sys2Proof.Machine
end
